-- ==== Sys2Proof/Word.lean ====
section
/-! DEFINITION. The word types of the BN40: what the manual counts, wraps or carries as bits. -/

namespace Sys2Proof

/-- One payload byte of a frame, or one byte of a stored record. -/
abbrev Byte := BitVec 8

/-- The node time count: milliseconds, wrapping at 2^32 (R194). -/
abbrev Time := BitVec 32

/-- A track count of the drive station: signed millimetres, wrapping at 2^32 (R24, 0.6). -/
abbrev TrackCount := BitVec 32

/-- A record's sequence number, wrapping at 2^24 (R149). -/
abbrev Seq := BitVec 24

/-- A set of numbered positions as two payload bytes carry it (10.3, 11.9). -/
abbrev Bits := BitVec 16

/-- A station address 0..15; 15 is the all-stations destination (0.5). -/
abbrev Addr := Fin 16

/-- One of the four zones Z0..Z3 (3.1). -/
abbrev ZoneId := Fin 4

end Sys2Proof
end

