-- ==== Sys2Proof/Syntax.lean ====
section
/-! DEFINITION. The commands of the BN40: one constructor for each row of spec/opcode_table.json, with the operands
the rules give the row. A received frame carries its source and its payload bytes; a request its tag as well; a sensor
arrival its reading, `none` where the sensor flags the reading as invalid. -/

namespace Sys2Proof

/-- A side of the screed: the value of the LEV and FEED straps (1.1) and the direction a bay side names (1.2). -/
inductive Side where
  | left
  | right
  deriving DecidableEq, Repr

/-- The four pin codes of the LEV and FEED strap groups; `both` is the fourth code (R1). -/
inductive PinCode where
  | open
  | left
  | right
  | both
  deriving DecidableEq, Repr, Inhabited

/-- The levels on the strap pins (R1). -/
structure StrapPins where
  bay : Fin 8
  lev : PinCode
  feed : PinCode
  ext : Bool
  deriving DecidableEq, Repr, Inhabited

/-- The commands, in the order of the table. -/
inductive Instr where
  | powerUp (pins : StrapPins)
  | resetLineAsserted
  | warmReset (pins : StrapPins)
  | haltInputAsserted
  | haltInputReleased
  | extensionSensorArrival (reading : Option Int)
  | thermocoupleSample (zone : ZoneId) (reading : Option Int) (current : Option Nat)
  | sampleTimeout (zone : ZoneId)
  | standbyTimerExpiry
  | claimWindowExpiry
  | backOffEnd
  | shedHoldOffExpiry
  | demandPeriodExpiry
  | ownDemandAgeLimit
  | peerAgeingScan
  | travelTimerExpiry
  | lineIdle
  | arbitrationLost (winner : Addr)
  | frameCarried
  | transmitError
  | listenOnlyTimerExpiry
  | checkFailureHeard
  | source15Frame
  | ownAddressHeard
  | otherFrameHeard (src : Addr)
  | demandArrival (src : Addr) (payload : List Byte)
  | claimArrival (src : Addr) (payload : List Byte)
  | levelStatusArrival (src : Addr) (payload : List Byte)
  | feedStatusArrival (src : Addr) (payload : List Byte)
  | travelFrame (src : Addr) (payload : List Byte)
  | headReadingArrival (head : Fin 3) (reading : Option Int)
  | inclinometerArrival (reading : Option Int)
  | levellingCycle
  | partnerWatchExpiry
  | jogEnd
  | levelStatusTimerExpiry
  | levelSensorArrival (reading : Option Int)
  | feedEvaluation (paddleClosed : Bool)
  | runOnExpiry
  | feedStatusTimerExpiry
  | sweepArrival (readings : List (Option Int))
  | sweepTimeout
  | nodeResetTimeout
  | requestDropped (src : Addr)
  | unassignedRequest (cls : Nat) (src : Addr) (tag : Byte) (payload : List Byte)
  | configSet (src : Addr) (tag : Byte) (payload : List Byte)
  | configCommit (src : Addr) (tag : Byte) (payload : List Byte)
  | nodeResume (src : Addr) (tag : Byte) (payload : List Byte)
  | nodeReset (src : Addr) (tag : Byte) (payload : List Byte)
  | identRead (src : Addr) (tag : Byte) (payload : List Byte)
  | heatSetKeep (src : Addr) (tag : Byte) (payload : List Byte)
  | heatSetOff (src : Addr) (tag : Byte) (payload : List Byte)
  | heatSetOn (src : Addr) (tag : Byte) (payload : List Byte)
  | heatSetStandbyNow (src : Addr) (tag : Byte) (payload : List Byte)
  | levelModeOff (src : Addr) (tag : Byte) (payload : List Byte)
  | levelModeManual (src : Addr) (tag : Byte) (payload : List Byte)
  | levelModeGrade (src : Addr) (tag : Byte) (payload : List Byte)
  | levelModeSlope (src : Addr) (tag : Byte) (payload : List Byte)
  | levelSetOffset (src : Addr) (tag : Byte) (payload : List Byte)
  | levelSetSlope (src : Addr) (tag : Byte) (payload : List Byte)
  | levelSetJog (src : Addr) (tag : Byte) (payload : List Byte)
  | levelZero (src : Addr) (tag : Byte) (payload : List Byte)
  | levelGains (src : Addr) (tag : Byte) (payload : List Byte)
  | levelTrialCaptureRead (src : Addr) (tag : Byte) (payload : List Byte)
  | levelTrialStart (src : Addr) (tag : Byte) (payload : List Byte)
  | levelTrialPromote (src : Addr) (tag : Byte) (payload : List Byte)
  | levelTrialEnd (src : Addr) (tag : Byte) (payload : List Byte)
  | feedStatusRead (src : Addr) (tag : Byte) (payload : List Byte)
  | feedMode (src : Addr) (tag : Byte) (payload : List Byte)
  | feedLevel (src : Addr) (tag : Byte) (payload : List Byte)
  | feedDuties (src : Addr) (tag : Byte) (payload : List Byte)
  | jobStart (src : Addr) (tag : Byte) (payload : List Byte)
  | jobEnd (src : Addr) (tag : Byte) (payload : List Byte)
  | readoutOpen (src : Addr) (tag : Byte) (payload : List Byte)
  | readoutStop (src : Addr) (tag : Byte) (payload : List Byte)
  | readoutStatus (src : Addr) (tag : Byte) (payload : List Byte)
  | counterSelect (src : Addr) (tag : Byte) (payload : List Byte)
  | counterRead (src : Addr) (tag : Byte) (payload : List Byte)
  | counterThreshold (src : Addr) (tag : Byte) (payload : List Byte)
  | alertMaskSet (src : Addr) (tag : Byte) (payload : List Byte)
  | alertMaskClear (src : Addr) (tag : Byte) (payload : List Byte)
  | alertQuery (src : Addr) (tag : Byte) (payload : List Byte)
  | alertAck (src : Addr) (tag : Byte) (payload : List Byte)
  | checkRead (src : Addr) (tag : Byte) (payload : List Byte)
  | checkParityTest (src : Addr) (tag : Byte) (payload : List Byte)
  deriving DecidableEq, Repr

end Sys2Proof
end

