-- ==== Sys2Proof/Config.lean ====
section
/-! DEFINITION. What the manual leaves undefined: constants with no body, of which nothing can be proved. -/

namespace Sys2Proof.Config

/-- FREE VALUE. Byte `i` of a ring slot that nothing has written since power-up. Chapter 9.1 gives the slots' power-up
contents as "contents not defined". Log 8. -/
opaque ringByte (slot i : Nat) : BitVec 8

/-- FREE VALUE. The parity bit beside byte `i` of a ring slot that nothing has written since power-up. Log 8. -/
opaque ringParity (slot i : Nat) : Bool

/-- FREE VALUE. The levels that the strap pins have at the `n`-th warm reset started by a NODE-RESET. The harness sets them
(R1), the reset reads them (R12), and the table's rows for that moment (FRAME_CARRIED, NODE_RESET_TIMEOUT) do not carry
them. Log 4. -/
opaque strapLevels (n : Nat) : StrapPins

end Sys2Proof.Config
end

