-- ==== Sys2Proof/Machine/Items.lean ====
section
/-! DEFINITION. The configuration item table of chapter 1.4: number, range and default of items 1 to 44. -/

namespace Sys2Proof.Machine

/-- One row of the item table: the range's two ends and the default. Items 29 and 31 have a further lower bound that
depends on another item (R9, `lowerBound`). -/
structure ItemRow where
  lo : Int
  hi : Int
  default : Int
  deriving DecidableEq, Repr

/-- The item table, item 1 first (1.4). The default of item 1 is "unset (0)". -/
def itemTable : Vector ItemRow 44 := #v[
  ⟨1, 2, 0⟩, ⟨-600, 600, 0⟩, ⟨50, 300, 250⟩, ⟨0, 250, 0⟩, ⟨-300, 300, -120⟩,
  ⟨-300, 300, 120⟩, ⟨100, 1000, 250⟩, ⟨2, 80, 30⟩, ⟨2, 80, 30⟩, ⟨2, 80, 30⟩,
  ⟨2, 80, 30⟩, ⟨50, 1200, 480⟩, ⟨0, 200, 20⟩, ⟨2, 10, 4⟩, ⟨5, 30, 10⟩,
  ⟨0, 30, 10⟩, ⟨0, 60, 30⟩, ⟨0, 50, 20⟩, ⟨80, 200, 140⟩, ⟨80, 200, 140⟩,
  ⟨80, 200, 140⟩, ⟨80, 200, 140⟩, ⟨0, 4, 1⟩, ⟨0, 4, 2⟩, ⟨0, 4, 1⟩,
  ⟨1, 3, 2⟩, ⟨200, 1000, 320⟩, ⟨5, 50, 10⟩, ⟨20, 300, 60⟩, ⟨0, 500, 150⟩,
  ⟨0, 1000, 680⟩, ⟨10, 1000, 100⟩, ⟨1, 100, 20⟩, ⟨100, 900, 500⟩, ⟨50, 500, 200⟩,
  ⟨0, 300, 100⟩, ⟨500, 1500, 1000⟩, ⟨0, 500, 150⟩, ⟨2, 30, 8⟩, ⟨0, 20, 5⟩,
  ⟨60, 160, 110⟩, ⟨0, 3, 0⟩, ⟨0, 3, 1⟩, ⟨0, 3, 2⟩]

/-- The defaults of the 44 items (R11). -/
def defaultItems : Vector Int 44 := itemTable.map (·.default)

/-- Item `n` (1..44) of a set of items. -/
def itemOf (items : Vector Int 44) (n : Nat) : Int := items.getD (n - 1) 0

/-- A set of items with item `n` (1..44) replaced. -/
def putItem (items : Vector Int 44) (n : Nat) (v : Int) : Vector Int 44 := items.setIfInBounds (n - 1) v

end Sys2Proof.Machine
end

