-- ==== Sys2Proof/Machine/State.lean ====
section
/-! DEFINITION. The state of the BN40: every register, counter, flag, timer, list and slot the manual names, block by
block (0.2), as plain data; the two kinds of stop; and the state right after power-up. -/

namespace Sys2Proof.Machine

/-- Why a command stops the machine. The manual stops the node nowhere, so the one fault is about ill-formed terms. -/
inductive Fault where
  /-- Raised by execSweepArrival (a sweep that does not carry twelve readings) and execUnassignedRequest (a class outside
  49..55): operands that no command of the row can have. SAFE: no frame and no sweep of the hardware is such a term. Log 19. -/
  | illFormed
  deriving DecidableEq, Repr

/-- Why a command has no meaning. -/
inductive Refusal where
  /-- Raised by exec's arm of a command that is not modelled yet; no arm is. SAFE: the machine stops where the hardware goes on. -/
  | notModelled (mnemonic : String)
  deriving DecidableEq, Repr

/-! ### Node control (CFG) -/

/-- The strap values as last read (R1): a group reading the fourth code is taken as not fitted. -/
structure Straps where
  bay : Fin 8
  lev : Option Side
  feed : Option Side
  ext : Bool
  deriving DecidableEq, Repr

/-- The three node states (1.3). -/
inductive NodeState where
  | setup
  | run
  | halt
  deriving DecidableEq, Repr

/-- The heat mode; STANDBY is the heat mode ON with standby active (3.1). -/
inductive HeatMode where
  | off
  | on
  | standby
  deriving DecidableEq, Repr

/-- Configuration store and node control: node state, strap values, item sets, run settings, bay geometry (chapter 1). -/
structure Cfg where
  node : NodeState
  straps : Straps
  working : Vector Int 44
  committed : Vector Int 44
  keptStraps : Straps
  valid : Bool
  check : BitVec 16
  heatMode : HeatMode
  setpoints : Vector Int 4
  feedSetpoint : Int
  ext : Int
  width : Int
  centre : Int
  deriving DecidableEq, Repr

/-! ### Levelling data that frames and replies carry -/

/-- A gain set (5.1): the values of items 28 to 32. -/
structure Gains where
  d : Int
  p : Int
  uMin : Int
  uMax : Int
  slew : Int
  deriving DecidableEq, Repr

/-- The reason of HOLD (6.1). -/
inductive HoldReason where
  | sensor
  | partner
  | travel
  deriving DecidableEq, Repr

/-- The levelling mode; HOLD is one mode with a reason (6.1). -/
inductive LevelMode where
  | off
  | manual
  | grade
  | slope
  | hold (reason : HoldReason)
  deriving DecidableEq, Repr

/-- The reason a trial ended with (R109). -/
inductive TrialReason where
  | window
  | ended
  | promoted
  | sensor
  | partner
  | travel
  | conflict
  | halt
  deriving DecidableEq, Repr

/-- The trial status capture (R109); duties are signed, DOWN positive. -/
structure TrialCapture where
  reason : TrialReason
  cycles : Nat
  index : Nat
  error : Int
  trialDuty : Int
  guardDuty : Int
  deriving DecidableEq, Repr

/-! ### Feed data that replies carry -/

/-- The feed mode (7.2). -/
inductive FeedMode where
  | off
  | manual
  | auto
  deriving DecidableEq, Repr

/-- The phase of AUTO (7.2). -/
inductive FeedPhase where
  | feeding
  | runOn
  | idle
  deriving DecidableEq, Repr

/-! ### Zone data that replies carry -/

/-- The zone states (3.1). -/
inductive ZoneState where
  | off
  | idle
  | want
  | claiming
  | on
  | shed
  | overtemp
  | fault
  deriving DecidableEq, Repr

/-- The fault reason of a zone (3.1). -/
inductive FaultReason where
  | none
  | sensor
  | current
  deriving DecidableEq, Repr

/-- One zone's share of a HEAT-SET reply (R47). -/
structure ZoneReport where
  state : ZoneState
  reason : FaultReason
  setpoint : Int
  reading : Option Int
  deriving DecidableEq, Repr

/-! ### Readout, memory check and counter data that replies and frames carry -/

/-- The states of a readout channel (9.2). -/
inductive ChannelState where
  | idle
  | headers
  | records
  | wait
  | closing
  deriving DecidableEq, Repr

/-- The close status of a channel (9.2). -/
inductive CloseStatus where
  | none
  | complete
  | stopped
  | ownerLost
  deriving DecidableEq, Repr

/-- A readout channel's context (9.2). -/
structure Channel where
  state : ChannelState
  owner : Option Addr
  next : Seq
  count : Nat
  remaining : Nat
  headerCount : Nat
  headersLeft : Nat
  cyclic : Bool
  closeFlag : Bool
  recordsSent : Nat
  voidsSent : Nat
  status : CloseStatus
  deriving DecidableEq, Repr

/-- The content of a READOUT STATUS or STOP reply (R153, R163, R166): the channel number, the channel's context, the owner
15 if it has none, and the ring's oldest seq, next_seq and held. -/
structure ChannelReport where
  number : Fin 4
  state : ChannelState
  owner : Addr
  next : Seq
  count : Nat
  remaining : Nat
  headerCount : Nat
  headersLeft : Nat
  cyclic : Bool
  closeFlag : Bool
  recordsSent : Nat
  voidsSent : Nat
  status : CloseStatus
  oldest : Seq
  nextSeq : Seq
  held : Nat
  deriving DecidableEq, Repr

/-- The reason a VOID carries (R155). -/
inductive VoidReason where
  | lapped
  | damaged
  deriving DecidableEq, Repr

/-- The memory check's capture (9.6). -/
structure CheckCapture where
  slot : Nat
  seq : Seq
  reader : Fin 4
  time : Time
  index : Nat
  deriving DecidableEq, Repr

/-- An event counter's capture (10.1). -/
structure CounterCapture where
  counter : Fin 4
  event : Nat
  time : Time
  index : Nat
  item : Nat
  deriving DecidableEq, Repr

/-- What a COUNTER READ reply gives for one counter (R174). -/
structure CounterReport where
  selection : Nat
  filled : Bool
  value : Nat
  threshold : Nat
  deriving DecidableEq, Repr

/-! ### Frames -/

/-- The outcomes of a request, in the order of their codes 0..9 (R191). -/
inductive ReplyCode where
  | done
  | clamped
  | refusedState
  | refusedPartner
  | refusedBusy
  | refusedOwner
  | refusedRange
  | refusedConfig
  | refusedFormat
  | unknown
  deriving DecidableEq, Repr

/-- The payload of a CLAIM (R57); also a station's claim in the peer table and in the claim view (2.1, 4.2). -/
structure Claim where
  zone : Nat
  power : Nat
  need : Nat
  deriving DecidableEq, Repr

/-- The payload of a DEMAND (R63), mode and node state as their codes; also the heating part of an entry (2.1). -/
structure Demand where
  draw : Nat
  want : Nat
  need : Nat
  ready : Bool
  mode : Nat
  node : Nat
  deriving DecidableEq, Repr

/-- The payload of a LEVEL-STATUS (R101); also the levelling part of an entry (2.1). -/
structure LevelStatus where
  side : Nat
  mode : Nat
  error : Int
  duty : Int
  refValid : Bool
  trial : Bool
  deriving DecidableEq, Repr

/-- The feed part of an entry: a FEED-STATUS less its conveyor duty (2.1, R127). -/
structure FeedPart where
  side : Nat
  mode : Nat
  starved : Bool
  degraded : Bool
  level : Nat
  deriving DecidableEq, Repr

/-- The payload of a TRAVEL (R24); also the travel part of an entry (2.1). -/
structure Travel where
  left : TrackCount
  right : TrackCount
  seq : Byte
  deriving DecidableEq, Repr

/-- The payload of a COLD-SPOT (R145). -/
structure ColdSpot where
  bay : Nat
  interval : Nat
  cold : Bits
  coldest : Nat
  deriving DecidableEq, Repr

/-- The payload of an ALERT (R180). -/
structure AlertNotice where
  source : Nat
  present : Bits
  mask : Bits
  deriving DecidableEq, Repr

/-- The IDENT-READ reply (R14). -/
structure Ident where
  part : Nat
  revision : Nat
  straps : Straps
  node : NodeState
  valid : Bool
  check : BitVec 16
  halt : Bool
  heatMode : HeatMode
  width : Int
  centre : Int
  deriving DecidableEq, Repr

/-- The fields every reply to a taken FEED carries (R117); an invalid level is `none` (65535 on the line). -/
structure FeedReport where
  mode : FeedMode
  phase : Option FeedPhase
  setpoint : Int
  conveyor : Int
  auger : Int
  level : Option Int
  degraded : Bool
  starved : Bool
  deriving DecidableEq, Repr

/-- The content of a REPLY beyond its outcome byte, as the owning rule names it (R191). -/
inductive Content where
  | empty
  | ident (i : Ident)
  | item (number : Nat) (value : Int)
  | failing (number : Nat)
  | checkValue (v : BitVec 16)
  | zones (mode : HeatMode) (ready : Bool) (zones : Vector ZoneReport 4)
  | levelMode (mode : Nat) (refValid : Bool) (partner : Nat) (partnerMode : Nat)
  | partner (partner : Nat) (partnerMode : Nat)
  | levelSet (op : Nat) (value : Int)
  | jog (op : Nat) (direction : Nat) (duty : Int) (duration : Nat)
  | zeroed (average : Int) (heads : Nat) (offset : Int)
  | heads (n : Nat)
  | gains (g : Gains) (check : BitVec 16)
  | trialRead (capture : Option TrialCapture) (running : Bool) (strikes : Nat) (cycles : Nat)
  | trialSet (g : Gains) (w : Int) (k : Nat)
  | trialEnd (capture : Option TrialCapture)
  | feed (r : FeedReport)
  | job (number : Byte)
  | opened (channel : Fin 4) (start oldest next : Seq) (held : Nat)
  | channel (r : ChannelReport)
  | counter (number : Fin 4) (selection : Nat) (threshold : Nat)
  | counters (all : Vector CounterReport 4) (capture : Option CounterCapture)
  | alerts (present mask : Bits) (highest : Nat)
  | check (capture : Option CheckCapture) (pending overflow armed : Bool)
  deriving DecidableEq, Repr

/-- The payloads of the frames the node sends. Only those of chapter 4 to 11's tables have a byte layout (log 16). -/
inductive Body where
  | claim (c : Claim)
  | alert (a : AlertNotice)
  | reply (code : ReplyCode) (content : Content)
  | demand (d : Demand)
  | levelStatus (l : LevelStatus)
  | feedStatus (f : FeedPart) (conveyor : Nat)
  | coldSpot (c : ColdSpot)
  | header0 (part revision : Nat) (straps : Straps) (node : NodeState)
  | header1 (valid : Bool) (capacity interval inner base travel trackL trackR side width : Int)
  | header2 (oldest next : Seq) (held : Nat) (job : Byte) (overwritten : Nat)
  | record (bytes : List Byte)
  | void (reason : VoidReason) (first last : Seq)
  | close (status : CloseStatus) (records voids remaining : Nat)
  deriving DecidableEq, Repr

/-- A frame waiting in a slot or a list. `resets` marks the REPLY to a taken NODE-RESET (R188, step 3). -/
structure Frame where
  dst : Addr
  tag : Byte
  body : Body
  resets : Bool
  deriving DecidableEq, Repr

/-- The three transmit slots (11.5). -/
inductive Slot where
  | u
  | p
  | b
  deriving DecidableEq, Repr

/-- Link controller (R194). `listenUntil` is the LISTEN-ONLY timer: the link state is ACTIVE exactly while it is `none`. -/
structure Lnk where
  tally : Nat
  listenUntil : Option Time
  slotU : Option Frame
  slotP : Option Frame
  slotB : Option Frame
  uList : List Frame
  pList : List Frame
  resetPending : Option Time
  lineIdle : Bool
  sending : Option Slot
  deriving DecidableEq, Repr

/-! ### Peer table and travel -/

/-- One entry of the peer table; each optional part with the time of its frame (2.1). -/
structure Entry where
  heard : Bool
  lastTime : Option Time
  silent : Bool
  heating : Option (Demand × Time)
  claim : Option (Claim × Time)
  level : Option (LevelStatus × Time)
  feed : Option (FeedPart × Time)
  travel : Option (Travel × Time)
  deriving DecidableEq, Repr

/-- Peer table: an entry for each station address and the ageing timer (R15, R20). -/
structure Ptb where
  entries : Vector Entry 16
  scanDue : Time
  deriving DecidableEq, Repr

/-- The travel states (R26). -/
inductive TravelState where
  | moving
  | stopped
  | reversing
  | unknown
  deriving DecidableEq, Repr

/-- The last accepted TRAVEL frame. After a warm reset its sequence number is cleared (`none`) and its arrival time is
treated as long past (`none`) (R33). -/
structure LastFrame where
  src : Addr
  left : TrackCount
  right : TrackCount
  seq : Option Byte
  time : Option Time
  deriving DecidableEq, Repr

/-- Travel tracker (2.4). `stopMark` is the moment from which STOPPED or UNKNOWN time is not yet in `stopMs` (R30). -/
structure Trv where
  last : Option LastFrame
  state : TravelState
  motion : List (Int × Time)
  jobOpen : Bool
  jobBase : Option (TrackCount × TrackCount)
  bayTravel : Option Int
  highWater : Int
  baseIndex : Nat
  baseTravel : Int
  index : Nat
  stopMs : Nat
  stopMark : Time
  timerDue : Time
  deriving DecidableEq, Repr

/-! ### Heating -/

/-- A zone record (3.1). `rejoining` is the model's own field: the zone has left FAULT and has not been evaluated since, so
the ready condition does not count it yet (R46; log 47). -/
structure Zone where
  state : ZoneState
  reason : FaultReason
  latch : Bool
  reading : Option Int
  lastSample : Option Time
  timeoutDue : Time
  lowCount : Nat
  shedLock : Option Time
  element : Bool
  rejoining : Bool
  deriving DecidableEq, Repr

/-- Zone heater (3.1); heat mode and setpoints are CFG's run settings. -/
structure Zht where
  zones : Vector Zone 4
  standbySince : Option Time
  readyStart : Option Time
  ready : Bool
  deriving DecidableEq, Repr

/-- The claim in flight: QUEUED while `window` is none, WINDOW with its expiry time otherwise (4.2). -/
structure OwnClaim where
  zone : ZoneId
  power : Nat
  need : Nat
  window : Option Time
  deriving DecidableEq, Repr

/-- What the last queued DEMAND reported (4.2). -/
structure Reported where
  want : Nat
  ready : Bool
  mode : HeatMode
  node : NodeState
  deriving DecidableEq, Repr

/-- Generator share unit (4.2). `latestOffer` is the zone of ZHT's latest offer (R63, Want). -/
structure Gsu where
  ownDraw : Nat
  claim : Option OwnClaim
  view : Vector (Option (Claim × Time)) 16
  backOff : Option Time
  holdOff : Option Time
  need : Nat
  lastCarried : Option Time
  periodDue : Time
  reported : Reported
  latestOffer : Option ZoneId
  deriving DecidableEq, Repr

/-! ### Levelling -/

/-- A running jog: its signed duty (DOWN positive) and end time (R88). -/
structure Jog where
  duty : Int
  endTime : Time
  deriving DecidableEq, Repr

/-- A running trial (6.5); its trial slew state is the slew state of LVC while it runs. -/
structure Trial where
  gains : Gains
  w : Int
  k : Nat
  strikes : Nat
  cycles : Nat
  guardSlew : Int
  trialDuty : Int
  guardDuty : Int
  deriving DecidableEq, Repr

/-- Levelling controller (5.1, 6.1, 6.5). Outputs and slew states are signed duties, DOWN positive; a magnitude of 0 has
no direction. -/
structure Lvc where
  heads : Vector (Option (Int × Time)) 3
  incl : Option (Int × Time)
  reference : Option Int
  offset : Int
  slope : Int
  gains : Gains
  slew : Int
  output : Int
  lastError : Int
  paused : Bool
  satRun : Nat
  jog : Option Jog
  cycleDue : Time
  statusDue : Time
  mode : LevelMode
  partnerWatch : Option Time
  trial : Option Trial
  capture : Option TrialCapture
  deriving DecidableEq, Repr

/-! ### Feed -/

/-- Feed controller (chapter 7). `judged` is the level L of the last evaluation, `none` while it was invalid. -/
structure Fdc where
  mode : FeedMode
  phase : Option FeedPhase
  level : Option (Int × Time)
  judged : Option Int
  degraded : Bool
  starved : Bool
  conveyor : Int
  auger : Int
  manualConveyor : Int
  manualAuger : Int
  runOn : Option Time
  starveSince : Option Time
  evalDue : Time
  statusDue : Time
  paddleClosed : Bool
  deriving DecidableEq, Repr

/-! ### Mat, ring, readout, memory check, counters, alerts -/

/-- A lane accumulator (8.2). -/
structure Lane where
  count : Nat
  sum : Int
  min : Option Int
  max : Option Int
  deriving DecidableEq, Repr

/-- Mat scanner interface and interval builder (8.2). -/
structure Msi where
  accumulating : Bool
  openIndex : Nat
  lanes : Vector Lane 12
  flags : Bits
  jobStart : Option Time
  jobSat : Bool
  lastCold : Bool
  sweepDue : Time
  deriving DecidableEq, Repr

/-- One written ring slot: 33 bytes, each with its parity bit (9.1). -/
structure RingSlot where
  slot : Nat
  bytes : List Byte
  parity : List Bool
  deriving DecidableEq, Repr

/-- Record ring (9.1). `slots` lists the slots written since power-up, strictly rising; an unlisted slot's contents are
the free values of Config. -/
structure Ring where
  slots : List RingSlot
  nextSeq : Seq
  held : Nat
  job : Byte
  overwritten : Nat
  deriving DecidableEq, Repr

/-- Readout unit: the four channel contexts (9.2). -/
structure Rdu where
  channels : Vector Channel 4
  deriving DecidableEq, Repr

/-- Memory check (9.6). -/
structure Mck where
  capture : Option CheckCapture
  pending : Bool
  overflow : Bool
  armed : Bool
  deriving DecidableEq, Repr

/-- An event counter (10.1); selection 0 is none, threshold 0 is none. -/
structure Counter where
  selection : Nat
  value : Nat
  threshold : Nat
  capture : Option CounterCapture
  deriving DecidableEq, Repr

/-- Event counters (10.1). -/
structure Evc where
  counters : Vector Counter 4
  deriving DecidableEq, Repr

/-- Alert unit: source n in position n - 1 of each set (10.3). -/
structure Alr where
  present : Bits
  mask : Bits
  deriving DecidableEq, Repr

/-! ### The machine -/

/-- The state of the node, and the queue of commands that wait, first in, first out. `pins` is the strap pins as last read;
`strapReadings`, the model's own, counts the warm resets that a NODE-RESET has started (log 4). -/
structure State where
  now : Time
  resetLine : Bool
  haltInput : Bool
  pins : StrapPins
  strapReadings : Nat
  cfg : Cfg
  lnk : Lnk
  ptb : Ptb
  trv : Trv
  zht : Zht
  gsu : Gsu
  lvc : Lvc
  fdc : Fdc
  msi : Msi
  ring : Ring
  rdu : Rdu
  mck : Mck
  evc : Evc
  alr : Alr
  pending : List Instr
  deriving DecidableEq, Repr

/-! ### Power-up values -/

/-- Strap pins all open, bay 0. DESIGN CHOICE (unsafe, log 4): the harness sets them. -/
def openPins : StrapPins := { bay := 0, lev := .open, feed := .open, ext := false }

/-- The straps an open harness reads. -/
def openStraps : Straps := { bay := 0, lev := none, feed := none, ext := false }

/-- CFG at power-up (R11): SETUP, defaults, default geometry with extension 0. -/
def Cfg.reset : Cfg where
  node := .setup
  straps := openStraps
  working := defaultItems
  committed := defaultItems
  keptStraps := openStraps
  valid := false
  check := 0
  heatMode := .off
  setpoints := #v[140, 140, 140, 140]
  feedSetpoint := 500
  ext := 0
  width := 2500
  centre := -1250

/-- The DEMAND that R55 queues at power-up: draw 0, nothing wanted, heat mode OFF, SETUP. -/
def powerUpDemand : Frame where
  dst := 15
  tag := 0
  body := .demand { draw := 0, want := 0, need := 0, ready := false, mode := 0, node := 0 }
  resets := false

/-- LNK at power-up (R194), with the power-up DEMAND moved into slot P (R55, R187). The line is not known to be idle
until LINE_IDLE (DESIGN CHOICE, log 6). -/
def Lnk.reset : Lnk where
  tally := 0
  listenUntil := none
  slotU := none
  slotP := some powerUpDemand
  slotB := none
  uList := []
  pList := []
  resetPending := none
  lineIdle := false
  sending := none

/-- An empty entry (2.1). -/
def Entry.empty : Entry where
  heard := false
  lastTime := none
  silent := false
  heating := none
  claim := none
  level := none
  feed := none
  travel := none

/-- PTB at power-up (R15, R20). -/
def Ptb.reset : Ptb := { entries := Vector.replicate 16 Entry.empty, scanDue := 100 }

/-- TRV at power-up (R33). -/
def Trv.reset : Trv where
  last := none
  state := .unknown
  motion := []
  jobOpen := false
  jobBase := none
  bayTravel := none
  highWater := 0
  baseIndex := 0
  baseTravel := 0
  index := 0
  stopMs := 0
  stopMark := 0
  timerDue := 100

/-- A zone at power-up or warm reset, its sample timeout started at `now` (R50, R51). -/
def Zone.reset (now : Time) : Zone where
  state := .off
  reason := .none
  latch := false
  reading := none
  lastSample := none
  timeoutDue := now + 1000
  lowCount := 0
  shedLock := none
  element := false
  rejoining := false

/-- ZHT at power-up (R50). -/
def Zht.reset (now : Time) : Zht where
  zones := Vector.replicate 4 (Zone.reset now)
  standbySince := none
  readyStart := none
  ready := false

/-- GSU at power-up (R55), the period timer started by the power-up DEMAND. -/
def Gsu.reset (now : Time) : Gsu where
  ownDraw := 0
  claim := none
  view := Vector.replicate 16 none
  backOff := none
  holdOff := none
  need := 0
  lastCarried := none
  periodDue := now + 500
  reported := { want := 0, ready := false, mode := .off, node := .setup }
  latestOffer := none

/-- The defaults of items 28 to 32 (1.4). -/
def Gains.default : Gains := { d := 10, p := 60, uMin := 150, uMax := 680, slew := 100 }

/-- LVC at power-up or warm reset, with an active gain set (R73, R112). -/
def Lvc.reset (now : Time) (g : Gains) : Lvc where
  heads := Vector.replicate 3 none
  incl := none
  reference := none
  offset := 0
  slope := 0
  gains := g
  slew := 0
  output := 0
  lastError := 0
  paused := false
  satRun := 0
  jog := none
  cycleDue := now + 50
  statusDue := now + 100
  mode := .off
  partnerWatch := none
  trial := none
  capture := none

/-- FDC at power-up or warm reset (R129). -/
def Fdc.reset (now : Time) (paddle : Bool) : Fdc where
  mode := .off
  phase := none
  level := none
  judged := none
  degraded := false
  starved := false
  conveyor := 0
  auger := 0
  manualConveyor := 0
  manualAuger := 0
  runOn := none
  starveSince := none
  evalDue := now + 100
  statusDue := now + 200
  paddleClosed := paddle

/-- A lane with no samples (8.2). -/
def Lane.empty : Lane := { count := 0, sum := 0, min := none, max := none }

/-- MSI at power-up (R148). -/
def Msi.reset : Msi where
  accumulating := false
  openIndex := 0
  lanes := Vector.replicate 12 Lane.empty
  flags := 0
  jobStart := none
  jobSat := false
  lastCold := false
  sweepDue := 300

/-- RRG at power-up (R149): nothing held. -/
def Ring.reset : Ring := { slots := [], nextSeq := 0, held := 0, job := 0, overwritten := 0 }

/-- A channel at power-up and warm reset (R152). -/
def Channel.reset : Channel where
  state := .idle
  owner := none
  next := 0
  count := 0
  remaining := 0
  headerCount := 0
  headersLeft := 0
  cyclic := false
  closeFlag := false
  recordsSent := 0
  voidsSent := 0
  status := .none

/-- RDU at power-up and warm reset (R152). -/
def Rdu.reset : Rdu := { channels := Vector.replicate 4 Channel.reset }

/-- MCK at power-up and warm reset (9.6). -/
def Mck.reset : Mck := { capture := none, pending := false, overflow := false, armed := false }

/-- EVC at power-up and warm reset (R170). -/
def Evc.reset : Evc :=
  { counters := Vector.replicate 4 { selection := 0, value := 0, threshold := 0, capture := none } }

/-- ALR at power-up and warm reset, before the level sources are judged (R175). -/
def Alr.reset : Alr := { present := 0, mask := 0 }

/-- The machine right after power-up (R11) with the straps open, the HALT input and the reset line released. -/
def State.reset : State where
  now := 0
  resetLine := false
  haltInput := false
  pins := openPins
  strapReadings := 0
  cfg := Cfg.reset
  lnk := Lnk.reset
  ptb := Ptb.reset
  trv := Trv.reset
  zht := Zht.reset 0
  gsu := Gsu.reset 0
  lvc := Lvc.reset 0 Gains.default
  fdc := Fdc.reset 0 false
  msi := Msi.reset
  ring := Ring.reset
  rdu := Rdu.reset
  mck := Mck.reset
  evc := Evc.reset
  alr := Alr.reset
  pending := []

/-! ### Replacing one block -/

/-- `s` with the node time count replaced. -/
def State.setNow (s : State) (x : Time) : State := { s with now := x }
/-- `s` with the reset line's level replaced. -/
def State.setResetLine (s : State) (x : Bool) : State := { s with resetLine := x }
/-- `s` with the HALT input's level replaced. -/
def State.setHaltInput (s : State) (x : Bool) : State := { s with haltInput := x }
/-- `s` with the strap pins replaced. -/
def State.setPins (s : State) (x : StrapPins) : State := { s with pins := x }
/-- `s` with the count of NODE-RESET's readings of the pins replaced. -/
def State.setStrapReadings (s : State) (x : Nat) : State := { s with strapReadings := x }
/-- `s` with CFG replaced. -/
def State.setCfg (s : State) (x : Cfg) : State := { s with cfg := x }
/-- `s` with LNK replaced. -/
def State.setLnk (s : State) (x : Lnk) : State := { s with lnk := x }
/-- `s` with PTB replaced. -/
def State.setPtb (s : State) (x : Ptb) : State := { s with ptb := x }
/-- `s` with TRV replaced. -/
def State.setTrv (s : State) (x : Trv) : State := { s with trv := x }
/-- `s` with ZHT replaced. -/
def State.setZht (s : State) (x : Zht) : State := { s with zht := x }
/-- `s` with GSU replaced. -/
def State.setGsu (s : State) (x : Gsu) : State := { s with gsu := x }
/-- `s` with LVC replaced. -/
def State.setLvc (s : State) (x : Lvc) : State := { s with lvc := x }
/-- `s` with FDC replaced. -/
def State.setFdc (s : State) (x : Fdc) : State := { s with fdc := x }
/-- `s` with MSI replaced. -/
def State.setMsi (s : State) (x : Msi) : State := { s with msi := x }
/-- `s` with RRG replaced. -/
def State.setRing (s : State) (x : Ring) : State := { s with ring := x }
/-- `s` with RDU replaced. -/
def State.setRdu (s : State) (x : Rdu) : State := { s with rdu := x }
/-- `s` with MCK replaced. -/
def State.setMck (s : State) (x : Mck) : State := { s with mck := x }
/-- `s` with EVC replaced. -/
def State.setEvc (s : State) (x : Evc) : State := { s with evc := x }
/-- `s` with ALR replaced. -/
def State.setAlr (s : State) (x : Alr) : State := { s with alr := x }
/-- `s` with the queue of waiting commands replaced. -/
def State.setPending (s : State) (x : List Instr) : State := { s with pending := x }

end Sys2Proof.Machine
end

