-- ==== Sys2Proof/Machine/Operands.lean ====
section
/-! DEFINITION. Operand forms: multi-byte payload fields (most significant byte first, 11.1), the manual's integer
arithmetic (0.6), and the codes that frames carry. -/

namespace Sys2Proof.Machine

/-- A signed 16-bit field (11.1, two's complement). -/
def s16 (hi lo : Byte) : Int := (hi ++ lo).toInt

/-- An unsigned 16-bit field (11.1). -/
def u16 (hi lo : Byte) : Nat := (hi ++ lo).toNat

/-- A two-byte set of positions (10.4). -/
def set16 (hi lo : Byte) : Bits := hi ++ lo

/-- A three-byte sequence number (R153). -/
def seq24 (a b c : Byte) : Seq := a ++ b ++ c

/-- A four-byte track count (R24). -/
def count32 (a b c d : Byte) : TrackCount := a ++ b ++ c ++ d

/-- The part code (R14, R156). -/
def partCode : Nat := 40

/-- The silicon revision (R14, R156). -/
def siliconRevision : Nat := 1

/-- A one-byte flag: set unless 0 (log 15). -/
def flag8 (b : Byte) : Bool := b != 0

/-- The bytes of a number, most significant first, `n` of them. -/
def bytesOf : Nat → Nat → List Byte
  | 0, _ => []
  | n + 1, v => BitVec.ofNat 8 (v / 256 ^ n) :: bytesOf n v

/-- `v` clamped to `lo..hi` (0.6). -/
def clampTo (lo hi v : Int) : Int := if v < lo then lo else if hi < v then hi else v

/-- A signed quotient rounded half away from zero (0.6): the magnitude rounded half up, the sign restored. -/
def roundAway (num den : Int) : Int :=
  num.sign * den.sign * ((num.natAbs + den.natAbs / 2) / den.natAbs : Nat)

/-- A signed duty reduced to a magnitude of at most `m`, in the same direction (R91, R103). -/
def limitTo (m v : Int) : Int := if m < (v.natAbs : Int) then v.sign * m else v

/-- The side codes 1 L, 2 R (R101, item 1). -/
def sideCode : Side → Nat
  | .left => 1
  | .right => 2

/-- The strap codes 0 not fitted, 1 L, 2 R (R8). -/
def strapCode : Option Side → Nat
  | none => 0
  | some s => sideCode s

/-- The side opposite to a side. -/
def oppositeSide : Side → Side
  | .left => .right
  | .right => .left

/-- The codes of the heat mode in DEMAND (R63). -/
def heatModeCode : HeatMode → Nat
  | .off => 0
  | .on => 1
  | .standby => 2

/-- The codes of the node state in DEMAND (R63). -/
def nodeCode : NodeState → Nat
  | .setup => 0
  | .run => 1
  | .halt => 2

/-- The mode codes of LEVEL-STATUS (6.1). -/
def levelModeCode : LevelMode → Nat
  | .off => 0
  | .manual => 1
  | .grade => 2
  | .slope => 3
  | .hold .sensor => 4
  | .hold .partner => 5
  | .hold .travel => 6

/-- The codes of the feed mode in FEED-STATUS (7.2). -/
def feedModeCode : FeedMode → Nat
  | .off => 0
  | .manual => 1
  | .auto => 2

/-- The outcome codes (R191). -/
def replyCodeNumber : ReplyCode → Nat
  | .done => 0
  | .clamped => 1
  | .refusedState => 2
  | .refusedPartner => 3
  | .refusedBusy => 4
  | .refusedOwner => 5
  | .refusedRange => 6
  | .refusedConfig => 7
  | .refusedFormat => 8
  | .unknown => 9

/-- A request answered DONE or CLAMPED has been performed (R191). -/
def ReplyCode.performed : ReplyCode → Bool
  | .done | .clamped => true
  | _ => false

/-- DONE, or CLAMPED where a value was moved (0.6). -/
def doneOr (moved : Bool) : ReplyCode := if moved then .clamped else .done

/-- A group that reads the fourth code is taken as not fitted (R1). -/
def fittedSide : PinCode → Option Side
  | .left => some .left
  | .right => some .right
  | .open | .both => none

/-- The strap values the pins read (R1). -/
def readStraps (p : StrapPins) : Straps :=
  { bay := p.bay, lev := fittedSide p.lev, feed := fittedSide p.feed, ext := p.ext }

/-- Some group reads its fourth code (R1). -/
def fourthCode (p : StrapPins) : Bool := p.lev == .both || p.feed == .both

/-- The node's own address: its BAY strap value (R1, R181). -/
def Straps.address (s : Straps) : Addr := s.bay.castLE (by decide)

/-- The stations 0..14, whose entries the lookups and the ageing scan run over (R20, R21). -/
def stations : List Addr := [0, 1, 2, 3, 4, 5, 6, 7, 8, 9, 10, 11, 12, 13, 14]

/-- The zones in the order of their numbers. -/
def zoneIds : List ZoneId := [0, 1, 2, 3]

/-- The channels and counters in the order of their numbers. -/
def fourIds : List (Fin 4) := [0, 1, 2, 3]

end Sys2Proof.Machine
end

