-- ==== Sys2Proof/Machine/Flags.lean ====
section
/-! DEFINITION. Numbered flags: sets of positions, the ten interval flags (8.3), the twelve alert sources (10.3) and the
twenty-four event codes (R171). -/

namespace Sys2Proof.Machine

/-- The set holding position `n` alone; position 0 is the lowest (10.3, 11.9). -/
def bit (n : Nat) : Bits := 1#16 <<< n

/-- Position `n` is in the set. -/
def hasBit (b : Bits) (n : Nat) : Bool := b.getLsbD n

/-- The ten interval flags (8.3). -/
inductive IntervalFlag where
  | notReady
  | shed
  | starved
  | levelManual
  | stopped
  | reversed
  | travelLost
  | scannerFault
  | halt
  | restart
  deriving DecidableEq, Repr

/-- The flag positions in the RECORD layout (11.9). -/
def IntervalFlag.position : IntervalFlag → Nat
  | .notReady => 0
  | .shed => 1
  | .starved => 2
  | .levelManual => 3
  | .stopped => 4
  | .reversed => 5
  | .travelLost => 6
  | .scannerFault => 7
  | .halt => 8
  | .restart => 9

/-- The twelve alert sources (10.3). -/
inductive AlertSource where
  | haltInput
  | zoneFault
  | overload
  | hold
  | trialWindow
  | starved
  | checkPending
  | peerLost
  | listenOnly
  | scanner
  | threshold
  | conflict
  deriving DecidableEq, Repr

/-- The source numbers 1..12 (10.3). -/
def AlertSource.number : AlertSource → Nat
  | .haltInput => 1
  | .zoneFault => 2
  | .overload => 3
  | .hold => 4
  | .trialWindow => 5
  | .starved => 6
  | .checkPending => 7
  | .peerLost => 8
  | .listenOnly => 9
  | .scanner => 10
  | .threshold => 11
  | .conflict => 12

/-- Source n stands in position n - 1 (10.3). -/
def AlertSource.mask (a : AlertSource) : Bits := bit (a.number - 1)

/-- The sources in order of number. -/
def alertSources : List AlertSource :=
  [.haltInput, .zoneFault, .overload, .hold, .trialWindow, .starved, .checkPending, .peerLost, .listenOnly, .scanner,
    .threshold, .conflict]

/-- The latched sources 4, 5, 8, 11 and 12 (10.3). -/
def latchedSources : Bits := bit 3 ||| bit 4 ||| bit 7 ||| bit 10 ||| bit 11

/-- The positions that name a source; positions 12 to 15 name none and are ignored (R176). -/
def namedSources : Bits := 0x0FFF#16

/-- The events a block counts (R171). -/
inductive Event where
  | frameSent
  | arbitrationLost
  | transmitError
  | checkFailure
  | requestTaken
  | requestRefused
  | requestDropped
  | claimMade
  | claimWithdrawn
  | claimNotQueued
  | elementShed
  | zoneOvertemp
  | levellingCycle
  | levellingSaturated
  | holdEntered
  | trialStrike
  | starvedEntered
  | degradedEvaluation
  | recordClosed
  | recordOverwritten
  | voidSent
  | parityFailure
  | invalidLane
  | travelUnknown
  deriving DecidableEq, Repr

/-- The event codes 1..24 (R171). -/
def Event.code : Event → Nat
  | .frameSent => 1
  | .arbitrationLost => 2
  | .transmitError => 3
  | .checkFailure => 4
  | .requestTaken => 5
  | .requestRefused => 6
  | .requestDropped => 7
  | .claimMade => 8
  | .claimWithdrawn => 9
  | .claimNotQueued => 10
  | .elementShed => 11
  | .zoneOvertemp => 12
  | .levellingCycle => 13
  | .levellingSaturated => 14
  | .holdEntered => 15
  | .trialStrike => 16
  | .starvedEntered => 17
  | .degradedEvaluation => 18
  | .recordClosed => 19
  | .recordOverwritten => 20
  | .voidSent => 21
  | .parityFailure => 22
  | .invalidLane => 23
  | .travelUnknown => 24

/-- The greatest value of a counter and of the saturating 24-bit totals (R149, R152, R170). -/
def max24 : Nat := 16777215

end Sys2Proof.Machine
end

