-- ==== Sys2Proof/Machine/Ops.lean ====
section
/-! DEFINITION. The named operations every family uses: time, configuration items, the peer table's ages, slots and
pending lists (11.5), alert sources (10.3), event counters (10.1) and the interval flags (8.3). -/

namespace Sys2Proof.Machine

/-! ### Time -/

/-- The wrapping age of a stored time, in ms (0.6). -/
def age (now t : Time) : Nat := (now - t).toNat

/-- `due` lies ahead of `now` on the wrapping count. -/
def ahead (now due : Time) : Bool := decide (0 < (due - now).toNat ∧ (due - now).toNat < 2 ^ 31)

/-- The node time count is carried to the moment `due` of an expiry, if that lies ahead; a moment already past is taken
now. DESIGN CHOICE (safe, log 2). -/
def reach (due : Time) (s : State) : State := if ahead s.now due then s.setNow due else s

/-- The age of a stored time at this moment. -/
def State.age (s : State) (t : Time) : Nat := Machine.age s.now t

/-! ### Configuration -/

/-- Committed item `n`: while the configuration is invalid, CFG holds the defaults (1.4, R26, R187). -/
def State.item (s : State) (n : Nat) : Int := itemOf s.cfg.committed n

/-- The node's own address (R1). -/
def State.self (s : State) : Addr := s.cfg.straps.address

/-- The link state is ACTIVE (R185). -/
def State.active (s : State) : Bool := s.lnk.listenUntil.isNone

/-! ### Slots and pending lists -/

/-- The frame in a slot. -/
def Lnk.slot (l : Lnk) : Slot → Option Frame
  | .u => l.slotU
  | .p => l.slotP
  | .b => l.slotB

/-- A slot emptied. -/
def Lnk.emptySlot (l : Lnk) : Slot → Lnk
  | .u => { l with slotU := none }
  | .p => { l with slotP := none }
  | .b => { l with slotB := none }

/-- The local priority item of a slot (11.5). -/
def State.priority (s : State) : Slot → Int
  | .u => s.item 42
  | .p => s.item 43
  | .b => s.item 44

/-- The better of the slot chosen so far and the next one: the smaller priority item, the earlier on equal items (R187). -/
def betterSlot (s : State) (best : Option Slot) (x : Slot) : Option Slot :=
  if (s.lnk.slot x).isNone then best
  else match best with
    | none => some x
    | some y => if s.priority x < s.priority y then some x else some y

/-- The occupied slot with the smallest local priority item; equal items rank U, then P, then B (R187). -/
def chooseSlot (s : State) : Option Slot := [Slot.u, Slot.p, Slot.b].foldl (betterSlot s) none

/-- LNK begins the frame of the chosen slot if the line is idle, nothing is being sent and the link is ACTIVE (R181, R187). -/
def beginFrame (s : State) : State :=
  if s.active && s.lnk.lineIdle && s.lnk.sending.isNone then
    match chooseSlot s with
    | some x => s.setLnk { s.lnk with sending := some x, lineIdle := false }
    | none => s
  else s

/-- The head of the U list moves into an empty slot U (R187). -/
def fillU (s : State) : State :=
  match s.lnk.slotU, s.lnk.uList with
  | none, f :: rest => s.setLnk { s.lnk with slotU := some f, uList := rest }
  | _, _ => s

/-- The head of the P list moves into an empty slot P (R187). -/
def fillP (s : State) : State :=
  match s.lnk.slotP, s.lnk.pList with
  | none, f :: rest => s.setLnk { s.lnk with slotP := some f, pList := rest }
  | _, _ => s

/-- Four frames wait in the U list and slot U is occupied (R189). -/
def uFull (s : State) : Bool := s.lnk.slotU.isSome && decide (4 ≤ s.lnk.uList.length)

/-- A frame handed to the U list would be queued: it is not full, the link is ACTIVE and the reset line is released
(R185, R189). -/
def canQueueU (s : State) : Bool := s.active && !uFull s && !s.resetLine

/-- A frame joins the U list at the tail (R187). The caller has found room by `canQueueU`. -/
def pushU (f : Frame) (s : State) : State :=
  beginFrame (fillU (s.setLnk { s.lnk with uList := s.lnk.uList ++ [f] }))

/-- The four classes of the P list (11.5); no other body goes there. -/
def Body.pClass : Body → Nat
  | .demand _ => 16
  | .levelStatus _ => 18
  | .feedStatus _ _ => 20
  | .coldSpot _ => 22
  | _ => 0

/-- A newer frame replaces one of its class in its place; otherwise it joins at the tail (R187). -/
def placeP (f : Frame) (l : List Frame) : List Frame :=
  if l.any (fun g => g.body.pClass == f.body.pClass) then
    l.map (fun g => if g.body.pClass == f.body.pClass then f else g)
  else l ++ [f]

/-- A frame is handed to the P list; in LISTEN-ONLY or with the reset line asserted it is passed over (R185, R189). -/
def pushP (body : Body) (s : State) : State :=
  if s.active && !s.resetLine then
    beginFrame (fillP (s.setLnk { s.lnk with
      pList := placeP { dst := 15, tag := 0, body := body, resets := false } s.lnk.pList }))
  else s

/-- A CLAIM of this node waits in slot U or in its pending list (R57). -/
def claimWaits (s : State) : Bool :=
  (s.lnk.slotU.toList ++ s.lnk.uList).any fun f => match f.body with | .claim _ => true | _ => false

/-! ### Alert sources -/

/-- ALR queues an ALERT frame for a source; one that finds the U list full or the link LISTEN-ONLY is dropped (R180). -/
def queueAlert (a : AlertSource) (s : State) : State :=
  if canQueueU s then
    pushU { dst := 15, tag := 0, resets := false,
            body := .alert { source := a.number, present := s.alr.present, mask := s.alr.mask } } s
  else s

/-- A source becomes present: a level source's condition arises or a latched source is latched. A source already present
has no further effect; an enabled one queues an ALERT frame (R175, R180). -/
def raise (a : AlertSource) (s : State) : State :=
  if hasBit s.alr.present (a.number - 1) then s
  else
    let s := s.setAlr { s.alr with present := s.alr.present ||| a.mask }
    if hasBit s.alr.mask (a.number - 1) then queueAlert a s else s

/-- A source becomes absent (R175). -/
def lower (a : AlertSource) (s : State) : State := s.setAlr { s.alr with present := s.alr.present &&& ~~~ a.mask }

/-- A level source follows its condition (R175). -/
def follow (a : AlertSource) (present : Bool) (s : State) : State := if present then raise a s else lower a s

/-- The lowest-numbered source that is present and enabled, or 0 (L12, R176). -/
def highestAlert (a : Alr) : Nat :=
  match alertSources.find? (fun x => hasBit a.present (x.number - 1) && hasBit a.mask (x.number - 1)) with
  | some x => x.number
  | none => 0

/-- The ALERT line: asserted while some source is present and enabled and the reset line is released (R179). -/
def alertLine (s : State) : Bool := !s.resetLine && (s.alr.present &&& s.alr.mask) != 0

/-! ### Event counters -/

/-- The value a counter takes at an occurrence: raised by the amount, held at 16777215 (R170). -/
def countedValue (value amount : Nat) : Nat := min max24 (value + amount)

/-- The occurrence takes the counter from below its threshold to it or above. A filled capture says that the counter has
reached its threshold since the last clearing, and it does so at most once between two clearings (R172): also where
its threshold has been raised above the value since, so that nothing is latched then (DESIGN CHOICE, log 58). -/
def reachesThreshold (e : Event) (amount : Nat) (c : Counter) : Bool :=
  c.selection == e.code && c.capture.isNone &&
    decide (0 < c.threshold ∧ c.value < c.threshold ∧ c.threshold ≤ countedValue c.value amount)

/-- One counter at an occurrence (R170, R172). -/
def countOne (e : Event) (item amount : Nat) (now : Time) (index : Nat) (n : Fin 4) (c : Counter) : Counter :=
  if c.selection == e.code then
    { c with
      value := countedValue c.value amount
      capture := if reachesThreshold e amount c then
          some { counter := n, event := e.code, time := now, index := index, item := item }
        else c.capture }
  else c

/-- The four counters at an occurrence, each with its own number. -/
def countAll (e : Event) (item amount : Nat) (now : Time) (index : Nat) (v : Vector Counter 4) : Vector Counter 4 :=
  #v[countOne e item amount now index 0 v[0], countOne e item amount now index 1 v[1],
     countOne e item amount now index 2 v[2], countOne e item amount now index 3 v[3]]

/-- A block counts an event with an item and an amount: every counter that selects it rises, and a counter that reaches
its threshold fills its capture and latches source 11 (R170, R172). -/
def countBy (e : Event) (item amount : Nat) (s : State) : State :=
  let hit := s.evc.counters.toList.any (reachesThreshold e amount)
  let s := s.setEvc { s.evc with counters := countAll e item amount s.now s.trv.index s.evc.counters }
  if hit then raise .threshold s else s

/-- A block counts one occurrence of an event (R170). -/
def count (e : Event) (item : Nat) (s : State) : State := countBy e item 1 s

/-! ### Interval flags -/

/-- MSI takes outside events only while ACCUMULATING in RUN or HALT (R132, R135). -/
def accumulates (s : State) : Bool := s.msi.accumulating && s.cfg.node != .setup

/-- A flag is raised on the open interval (R134, R135). -/
def raiseFlag (f : IntervalFlag) (s : State) : State :=
  if accumulates s then s.setMsi { s.msi with flags := s.msi.flags ||| bit f.position } else s

/-! ### The reset line -/

/-- While the reset line is asserted every block is held: it takes no arrival, no report and no expiry (R12, R15, R55,
R114, R130, R149, R152, R175, R194). -/
def unlessHeld (f : State → State) (s : State) : State := if s.resetLine then s else f s

end Sys2Proof.Machine
end

