-- ==== Sys2Proof/Machine/PeerTable.lean ====
section
/-! DEFINITION. The peer table's operations: writing entries, heating freshness, presence, partner and side lookups
(chapter 2.1 to 2.3), and the reception of a frame from another station (R186). -/

namespace Sys2Proof.Machine

/-- The entry of a station address. -/
def State.entry (s : State) (a : Addr) : Entry := s.ptb.entries[a]

/-- An entry replaced. -/
def setEntry (a : Addr) (e : Entry) (s : State) : State :=
  s.setPtb { s.ptb with entries := s.ptb.entries.set a e }

/-- The general part of an entry is written: heard, time of the last frame, silent cleared (R15). -/
def hear (a : Addr) (s : State) : State :=
  setEntry a { s.entry a with heard := true, lastTime := some s.now, silent := false } s

/-- The heating part of an entry is replaced whole (R16). -/
def writeDemand (a : Addr) (d : Demand) (s : State) : State :=
  setEntry a { s.entry a with heating := some (d, s.now) } s

/-- The claim part of an entry is replaced (R17). -/
def writeClaim (a : Addr) (c : Claim) (s : State) : State :=
  setEntry a { s.entry a with claim := some (c, s.now) } s

/-- The levelling part of an entry is replaced (R17). -/
def writeLevel (a : Addr) (l : LevelStatus) (s : State) : State :=
  setEntry a { s.entry a with level := some (l, s.now) } s

/-- The feed part of an entry is replaced (R17). -/
def writeFeed (a : Addr) (f : FeedPart) (s : State) : State :=
  setEntry a { s.entry a with feed := some (f, s.now) } s

/-- The travel part of an entry is replaced (R17). -/
def writeTravel (a : Addr) (t : Travel) (s : State) : State :=
  setEntry a { s.entry a with travel := some (t, s.now) } s

/-- The three tiers of heating freshness (2.2). -/
inductive Freshness where
  | fresh
  | stale
  | gone
  deriving DecidableEq, Repr

/-- The heating freshness of an entry, judged afresh at each use (R19). -/
def freshness (s : State) (a : Addr) : Freshness :=
  match (s.entry a).heating with
  | none => .gone
  | some (_, t) => if s.age t ≤ 1500 then .fresh else if s.age t ≤ 5000 then .stale else .gone

/-- The levelling part of an entry while it is present: no more than 300 ms old (R21). -/
def levelPresent (s : State) (a : Addr) : Option LevelStatus :=
  match (s.entry a).level with
  | some (l, t) => if s.age t ≤ 300 then some l else none
  | none => none

/-- The feed part of an entry while it is present (R21). -/
def feedPresent (s : State) (a : Addr) : Option FeedPart :=
  match (s.entry a).feed with
  | some (f, t) => if s.age t ≤ 300 then some f else none
  | none => none

/-- A station other than this node whose present levelling part shows the side opposite to the strap side (R21). -/
def isPartner (s : State) (a : Addr) : Bool :=
  match s.cfg.straps.lev, levelPresent s a with
  | some side, some l => a != s.self && l.side == sideCode (oppositeSide side)
  | _, _ => false

/-- The partner and its levelling part; absent if no station or more than one qualifies (R21). -/
def partner (s : State) : Option (Addr × LevelStatus) :=
  match stations.filter (isPartner s) with
  | [a] => (levelPresent s a).map fun l => (a, l)
  | _ => none

/-- The lookup gives a present partner in GRADE (R96, R98, R99). -/
def partnerInGrade (s : State) : Bool :=
  match partner s with
  | some (_, l) => l.mode == 2
  | none => false

/-- The partner's address, or 15 when it is absent (R94). -/
def partnerAddress (s : State) : Nat :=
  match partner s with
  | some (a, _) => a
  | none => 15

/-- The partner's mode code, or 255 when it is absent (R94). -/
def partnerMode (s : State) : Nat :=
  match partner s with
  | some (_, l) => l.mode
  | none => 255

/-- Lookup "levelling auto" for the bay side, the own entry included (R23). -/
def levellingAuto (s : State) : Bool :=
  stations.any fun a =>
    match levelPresent s a with
    | some l => (l.side : Int) == s.item 1 && (l.mode == 2 || l.mode == 3)
    | none => false

/-- Lookup "feed starved" for the bay side, the own entry included (R23). -/
def feedStarved (s : State) : Bool :=
  stations.any fun a =>
    match feedPresent s a with
    | some f => (f.side : Int) == s.item 1 && f.starved
    | none => false

/-- A frame the node is receiving is discarded by an error: event 4 with item 15 (R183). -/
def checkFailure (s : State) : State := count .checkFailure 15 s

/-- A frame with the node's own address that this node did not send (R193). -/
def ownAddressFrame (s : State) : State := raise .conflict (count .checkFailure 15 s)

/-- Another station's frame has just ended on the line, which is not idle until LINE_IDLE (11.1). -/
def lineBusy (s : State) : State := s.setLnk { s.lnk with lineIdle := false }

/-- Reception of a frame from another station (R186). Nothing is received while the reset line is asserted (R15); a length
above 40 is treated as a failed check (R181); source 15 is discarded; the own address is R193's case; otherwise the
general part is written before any block acts (R15). -/
def received (src : Addr) (payload : List Byte) (act : State → State) (s : State) : State :=
  unlessHeld (fun s =>
    let s := lineBusy s
    if 40 < payload.length then checkFailure s
    else if src = 15 then s
    else if src = s.self then ownAddressFrame s
    else act (hear src s)) s

end Sys2Proof.Machine
end

