-- ==== Sys2Proof/Machine/Generator.lean ====
section
/-! DEFINITION. The generator share unit's operations: committed draw, need, DEMAND, claims, shed duty (chapter 4), over
the zone records of chapter 3. -/

namespace Sys2Proof.Machine

/-! ### Zones -/

/-- A zone record. -/
def State.zone (s : State) (z : ZoneId) : Zone := s.zht.zones[z]

/-- A zone record replaced. -/
def setZone (z : ZoneId) (x : Zone) (s : State) : State := s.setZht { s.zht with zones := s.zht.zones.set z x }

/-- The element power of a zone, in 0.1 kW (items 8 to 11). -/
def State.power (s : State) (z : ZoneId) : Nat := (s.item (8 + z)).toNat

/-- Some zone is in the state. -/
def anyZone (s : State) (x : ZoneState) : Bool := zoneIds.any fun z => (s.zone z).state == x

/-- The effective setpoint S: lowered by the standby drop (item 17) while standby is active (R37). -/
def effectiveSetpoint (s : State) (z : ZoneId) : Int :=
  s.cfg.setpoints[z] - (if s.cfg.heatMode == .standby then s.item 17 else 0)

/-- The deficit of a zone: S x 10 minus its last reading, floored at 0, in 0.1 degrees C (R37). -/
def deficit (s : State) (z : ZoneId) : Nat :=
  match (s.zone z).reading with
  | some r => (effectiveSetpoint s z * 10 - r).toNat
  | none => 0

/-- An element is switched off; its low-current count becomes 0 (R36). -/
def Zone.switchedOff (z : Zone) : Zone := { z with element := false, lowCount := 0 }

/-! ### Draws and need -/

/-- The own draw: the powers of the zones whose elements are on (R53). -/
def drawOf (s : State) : Nat := (zoneIds.map fun z => if (s.zone z).element then s.power z else 0).sum

/-- The draw of a peer entry that counts: FRESH or STALE (R52). -/
def peerDraw (s : State) (a : Addr) : Nat :=
  if a = s.self || freshness s a == .gone then 0
  else match (s.entry a).heating with
    | some (d, _) => d.draw
    | none => 0

/-- The committed draw C, formed afresh at each use (R52). -/
def committedDraw (s : State) : Nat := s.gsu.ownDraw + (stations.map (peerDraw s)).sum

/-- C exceeds G in the node's view (R67, R68). -/
def overloaded (s : State) : Bool := decide (s.item 12 < (committedDraw s : Int))

/-- A draw fits within the limit G - H (R52, R57, R60). -/
def withinLimit (s : State) (draw : Nat) : Bool := decide ((draw : Int) ≤ s.item 12 - s.item 13)

/-- The largest deficit among the WANT and CLAIMING zones, or 0 (R54). -/
def largestDeficit (s : State) : Nat :=
  (zoneIds.map fun z =>
    if (s.zone z).state == .want || (s.zone z).state == .claiming then deficit s z else 0).foldl max 0

/-- The need value: the largest deficit in whole degrees, plus the cold-lane bonus, clamped to 255 (R54).
The deficits are formed from the zones as they stand (DESIGN CHOICE, log 45). -/
def needNow (s : State) : Nat :=
  min 255 ((largestDeficit s + 5) / 10 + (if s.msi.lastCold then (s.item 18).toNat else 0))

/-- The GSU recomputes the need value (R54). -/
def recomputeNeed (s : State) : State := s.setGsu { s.gsu with need := needNow s }

/-! ### DEMAND -/

/-- The want: the power of the claimed zone, else of the zone of the latest offer while a zone is WANT, else 0 (R63). -/
def wantNow (s : State) : Nat :=
  match s.gsu.claim, s.gsu.latestOffer with
  | some c, _ => c.power
  | none, some z => if anyZone s .want then s.power z else 0
  | none, none => 0

/-- The payload of a DEMAND filled now (R63). -/
def demandNow (s : State) : Demand :=
  { draw := s.gsu.ownDraw, want := wantNow s, need := s.gsu.need, ready := s.zht.ready,
    mode := heatModeCode s.cfg.heatMode, node := nodeCode s.cfg.node }

/-- What a DEMAND queued now reports (4.2). -/
def reportNow (s : State) : Reported :=
  { want := wantNow s, ready := s.zht.ready, mode := s.cfg.heatMode, node := s.cfg.node }

/-- The GSU queues a DEMAND and restarts its period timer; in LISTEN-ONLY it passes the DEMAND over (R63, R71). -/
def queueDemand (s : State) : State :=
  if s.active && !s.resetLine then
    pushP (.demand (demandNow s)) (s.setGsu { s.gsu with reported := reportNow s, periodDue := s.now + 500 })
  else s

/-- A change of the want, of the ready flag, of the heat mode or of the node state queues a DEMAND (R63). -/
def reportChanges (s : State) : State := if reportNow s = s.gsu.reported then s else queueDemand s

/-! ### Ending a claim -/

/-- The back-off starts: 100 ms and 20 ms for each bay number (R61). -/
def startBackOff (s : State) : State :=
  s.setGsu { s.gsu with backOff := some (s.now + BitVec.ofNat 32 (100 + 20 * s.cfg.straps.bay)) }

/-- A claim in flight is withdrawn: it becomes none, event 9 is counted with the zone, the back-off starts (R61). -/
def withdrawClaim (s : State) : State :=
  match s.gsu.claim with
  | some c => startBackOff (count .claimWithdrawn c.zone (s.setGsu { s.gsu with claim := none }))
  | none => s

/-- A withdrawal at expiry or at a shed returns the zone to WANT (R61). -/
def withdrawToWant (s : State) : State :=
  match s.gsu.claim with
  | some c =>
    let s := if (s.zone c.zone).state == .claiming then setZone c.zone { s.zone c.zone with state := .want } s else s
    withdrawClaim s
  | none => s

/-- A claim in flight is abandoned: no frame, no event, no back-off (R62). -/
def abandonClaim (s : State) : State := s.setGsu { s.gsu with claim := none }

/-! ### Shed duty -/

/-- The need a candidate is ranked by: of a peer and of the node itself the need in its entry's last DEMAND (R67). An own
entry without one gives the present need value (DESIGN CHOICE, log 14). -/
def rankNeed (s : State) (a : Addr) : Nat :=
  match (s.entry a).heating with
  | some (d, _) => d.need
  | none => if a = s.self then s.gsu.need else 0

/-- The candidates: FRESH peers whose draw is above 0, and the node itself if its own draw is above 0 (R67). -/
def isCandidate (s : State) (a : Addr) : Bool :=
  if a = s.self then decide (0 < s.gsu.ownDraw)
  else freshness s a == .fresh && decide (0 < peerDraw s a)

/-- The smallest need is chosen; among equal needs the higher bay number (R67). -/
def chosenToShed (s : State) : Option Addr :=
  stations.foldl (fun best a =>
    if isCandidate s a then
      match best with
      | none => some a
      | some b => if rankNeed s a ≤ rankNeed s b then some a else some b
    else best) none

/-- Source 3 is present while C exceeds G (R68). -/
def judgeOverload (s : State) : State := follow .overload (overloaded s) s

/-- The GSU recomputes the own draw from the elements (R53). -/
def recomputeDraw (s : State) : State := s.setGsu { s.gsu with ownDraw := drawOf s }

/-- The element to shed: the first that is on in the order Z3, Z0, Z2, Z1 (R69). -/
def shedZone (s : State) : Option ZoneId := [3, 0, 2, 1].find? fun z => (s.zone z).element

/-- The switching off of a shed element: SHED for 10 s, event 11 (R42, R69 step 3). -/
def shedElement (s : State) : State :=
  match shedZone s with
  | some z =>
    count .elementShed z
      (setZone z { (s.zone z).switchedOff with state := .shed, shedLock := some (s.now + 10000) } s)
  | none => s

/-- The node finds itself chosen and sheds, in the five steps of R69. One DEMAND, that of step 4, shows the draw and the
want (DESIGN CHOICE, log 53). -/
def shed (s : State) : State :=
  let s := withdrawToWant s
  let s := s.setGsu { s.gsu with holdOff := some (s.now + 200) }
  let s := shedElement s
  let s := judgeOverload (queueDemand (recomputeDraw s))
  raiseFlag .shed s

/-- One shed evaluation; none is made while the hold-off runs (R66, R67). -/
def evaluateShed (s : State) : State :=
  if s.gsu.holdOff.isNone && overloaded s && chosenToShed s == some s.self then shed s else s

/-- A change of the own draw: recompute it, queue a DEMAND at once, evaluate shed duty, judge source 3 (R53, R66, R68). -/
def drawChanged (s : State) : State := judgeOverload (evaluateShed (queueDemand (recomputeDraw s)))

end Sys2Proof.Machine
end

