-- ==== Sys2Proof/Machine/Heating.lean ====
section
/-! DEFINITION. The zone heater (chapter 3): evaluations, the claim offer, the ready flag, standby; the commands
THERMOCOUPLE_SAMPLE, SAMPLE_TIMEOUT and STANDBY_TIMER_EXPIRY. -/

namespace Sys2Proof.Machine

/-! ### Thresholds and placement -/

/-- The zones are worked: node state RUN and heat mode ON or STANDBY (R38, R39, R46). -/
def heating (s : State) : Bool := s.cfg.node == .run && s.cfg.heatMode != .off

/-- The on threshold of a zone, in 0.1 degrees C (R37). -/
def onThreshold (s : State) (z : ZoneId) : Int := (effectiveSetpoint s z - s.item 14) * 10

/-- The off threshold of a zone (R37). -/
def offThreshold (s : State) (z : ZoneId) : Int := effectiveSetpoint s z * 10

/-- The overtemperature threshold of a zone (R37). -/
def overThreshold (s : State) (z : ZoneId) : Int := min ((effectiveSetpoint s z + 40) * 10) 2600

/-- The state in which a zone is placed afresh on a reading (R38). -/
def placement (s : State) (z : ZoneId) (r : Int) : ZoneState :=
  if !heating s then .off
  else if overThreshold s z < r then .overtemp
  else if r < onThreshold s z then .want
  else .idle

/-- A zone is placed afresh; its fault reason and its shed lock become none (R35, R38, R42). -/
def placeAfresh (z : ZoneId) (r : Int) (s : State) : State :=
  let x := placement s z r
  let s := setZone z { s.zone z with state := x, reason := .none, shedLock := none } s
  if x = .overtemp then count .zoneOvertemp z s else s

/-! ### Leaving a state at an evaluation -/

/-- ZHT asks the GSU to withdraw the claim if the zone was CLAIMING (R35, R40, R61). -/
def withdrawIf (claiming : Bool) (s : State) : State := if claiming then withdrawClaim s else s

/-- ZHT reports a change of own draw if the element was on (R35, R36, R39, R40). -/
def reportDrawIf (wasOn : Bool) (s : State) : State := if wasOn then drawChanged s else s

/-- A zone takes a state with its element switched off and its shed lock given up; the change of own draw is reported
and a claim withdrawn, as the zone's former state asks (R35, R36, R39, R40). -/
def leaveFor (x : ZoneState) (reason : FaultReason) (latch : Bool) (z : ZoneId) (s : State) : State :=
  let old := s.zone z
  let s := setZone z { old.switchedOff with state := x, reason := reason, latch := latch, shedLock := none } s
  withdrawIf (old.state == .claiming) (reportDrawIf old.element s)

/-- A zone enters OVERTEMP (R40). -/
def enterOvertemp (z : ZoneId) (s : State) : State :=
  leaveFor .overtemp .none (s.zone z).latch z (count .zoneOvertemp z s)

/-- The low-current count after the current of an evaluation; an invalid current is taken as 0 (R36). -/
def lowCountAfter (n : Nat) (current : Option Nat) : Nat := if current.getD 0 < 500 then n + 1 else 0

/-- The current of a zone that stays ON is checked (R36). -/
def checkCurrent (z : ZoneId) (current : Option Nat) (s : State) : State :=
  let n := lowCountAfter (s.zone z).lowCount current
  if 3 ≤ n then leaveFor .fault .current true z s else setZone z { s.zone z with lowCount := n } s

/-! ### Evaluations -/

/-- A sensor fault evaluation (R35): an invalid reading, or the sample timeout (R34). The current of an ON zone is not
checked at it (DEDUCED, log 44). -/
def evaluateInvalid (z : ZoneId) (s : State) : State :=
  let old := s.zone z
  if old.state = .fault then
    if old.latch then s else setZone z { old with reason := .sensor } s
  else leaveFor .fault .sensor old.latch z s

/-- An evaluation with a valid reading acts on the zone by its state (R35, R36, R38 to R42). The states other than FAULT
and OFF are left only while the zones are worked. -/
def evaluateValid (z : ZoneId) (r : Int) (current : Option Nat) (s : State) : State :=
  let s := setZone z { s.zone z with reading := some r } s
  let old := s.zone z
  match old.state with
  | .fault => if old.latch then s else placeAfresh z r s
  | .off => if heating s then placeAfresh z r s else s
  | .idle =>
    if !heating s then s
    else if overThreshold s z < r then enterOvertemp z s
    else if r < onThreshold s z then setZone z { old with state := .want } s
    else s
  | .want =>
    if !heating s then s
    else if overThreshold s z < r then enterOvertemp z s
    else if onThreshold s z ≤ r then setZone z { old with state := .idle } s
    else s
  | .claiming =>
    if !heating s then s
    else if overThreshold s z < r then enterOvertemp z s
    else s
  | .on =>
    if !heating s then s
    else if overThreshold s z < r then enterOvertemp z s
    else if offThreshold s z ≤ r then leaveFor .idle .none old.latch z s
    else checkCurrent z current s
  | .shed =>
    if !heating s then s
    else if overThreshold s z < r then enterOvertemp z s
    else match old.shedLock with
      | some t => if ahead s.now t then s else placeAfresh z r s
      | none => placeAfresh z r s
  | .overtemp =>
    if !heating s then s
    else if r ≤ offThreshold s z then placeAfresh z r s
    else s

/-! ### The claim offer -/

/-- The zone to claim for: among the WANT zones the largest deficit, equal deficits ranked Z1, Z2, Z0, Z3 (R43). -/
def offeredZone (s : State) : Option ZoneId :=
  ([1, 2, 0, 3] : List ZoneId).foldl (fun best z =>
    if (s.zone z).state == .want then
      match best with
      | none => some z
      | some b => if deficit s b < deficit s z then some z else some b
    else best) none

/-- An own DEMAND has been carried and its age is 4000 ms or less (R57, R65). -/
def ownDemandYoung (s : State) : Bool :=
  match s.gsu.lastCarried with
  | some t => decide (s.age t ≤ 4000)
  | none => false

/-- The seven conditions under which the GSU makes a claim for an offered zone (R57). -/
def mayClaim (s : State) (z : ZoneId) : Bool :=
  s.cfg.node == .run && s.active && ownDemandYoung s && s.gsu.claim.isNone && s.gsu.backOff.isNone && !claimWaits s &&
    withinLimit s (committedDraw s + s.power z)

/-- The GSU makes a claim: the CLAIM joins the U list, the claim is QUEUED, the zone CLAIMING, event 8 (R41, R57). -/
def makeClaim (z : ZoneId) (s : State) : State :=
  let c : Claim := { zone := z, power := s.power z, need := s.gsu.need }
  let s := pushU { dst := 15, tag := 0, body := .claim c, resets := false } s
  let s := s.setGsu { s.gsu with claim := some { zone := z, power := c.power, need := c.need, window := none } }
  count .claimMade z (setZone z { s.zone z with state := .claiming } s)

/-- The CLAIM could not be queued: the back-off starts, event 10 (R58). -/
def claimRefused (z : ZoneId) (s : State) : State := count .claimNotQueued z (startBackOff s)

/-- The GSU's answer to an offer (R43, R57, R58). -/
def answerOffer (z : ZoneId) (s : State) : State :=
  if mayClaim s z then if canQueueU s then makeClaim z s else claimRefused z s else s

/-- ZHT makes its claim offer if a zone is WANT and none is CLAIMING (R43). -/
def offer (s : State) : State :=
  if anyZone s .claiming then s
  else match offeredZone s with
    | some z => answerOffer z (s.setGsu { s.gsu with latestOffer := some z })
    | none => s

/-! ### The ready flag -/

/-- A zone not in FAULT has a last reading at or above its ready band (R46). -/
def inBand (s : State) (z : ZoneId) : Bool :=
  match (s.zone z).reading with
  | some r => decide ((effectiveSetpoint s z - s.item 15) * 10 ≤ r)
  | none => false

/-- A zone counts for the ready condition: it is not in FAULT, and one that has left FAULT has been evaluated since (R46;
log 47). -/
def countsForReady (s : State) (z : ZoneId) : Bool := (s.zone z).state != .fault && !(s.zone z).rejoining

/-- The ready condition (R46). -/
def readyCondition (s : State) : Bool :=
  heating s && zoneIds.any (countsForReady s) && zoneIds.all (fun z => !countsForReady s z || inBand s z)

/-- ZHT judges the ready flag after an evaluation; at one that has put its zone in FAULT the condition fails (R46;
log 47). -/
def judgeReady (faulted : Bool) (s : State) : State :=
  if !faulted && readyCondition s then
    match s.zht.readyStart with
    | none => s.setZht { s.zht with readyStart := some s.now }
    | some t => if 60000 ≤ s.age t then s.setZht { s.zht with ready := true } else s
  else s.setZht { s.zht with readyStart := none, ready := false }

/-- The ready flag is cleared, with its start (R46, R47, R48). -/
def clearReady (s : State) : State := s.setZht { s.zht with readyStart := none, ready := false }

/-! ### After each evaluation -/

/-- Source 2 is present while some zone is in FAULT (R35). -/
def judgeZoneFault (s : State) : State := follow .zoneFault (anyZone s .fault) s

/-- After each evaluation: source 2, the deficits reported to the GSU, the claim offer, the ready flag, and the DEMANDs
that changes of the want and of the ready flag queue (R35, R39, R43, R46, R54, R63). Source 2 is judged here, behind the
evaluation's own events and changes of draw (DESIGN CHOICE, log 55). -/
def afterEvaluation (faulted : Bool) (s : State) : State :=
  reportChanges (judgeReady faulted (reportChanges (offer (recomputeNeed (judgeZoneFault s)))))

/-- A reading is valid: not flagged, and within -20.0..450.0 degrees C (R34). -/
def validReading : Option Int → Option Int
  | some r => if -200 ≤ r ∧ r ≤ 4500 then some r else none
  | none => none

/-- The sample timeout of a zone is restarted (R34). -/
def restartTimeout (z : ZoneId) (s : State) : State := setZone z { s.zone z with timeoutDue := s.now + 1000 } s

/-- A zone that has left FAULT at this evaluation is counted for the ready condition from its next one (R46; log 47). -/
def markRejoining (left : Bool) (z : ZoneId) (s : State) : State := setZone z { s.zone z with rejoining := left } s

/-- A zone is evaluated on an arrived sample (R34). -/
def evaluate (z : ZoneId) (reading : Option Int) (current : Option Nat) (s : State) : State :=
  let before := (s.zone z).state
  let s := match validReading reading with
    | some r => evaluateValid z r current s
    | none => evaluateInvalid z s
  let after := (s.zone z).state
  afterEvaluation (before != .fault && after == .fault) (markRejoining (before == .fault && after != .fault) z s)

/-! ### Standby -/

/-- The heat mode is replaced and handed to the GSU (R44). -/
def setHeatMode (m : HeatMode) (s : State) : State := reportChanges (s.setCfg { s.cfg with heatMode := m })

/-- The standby timer is stopped. -/
def stopStandby (s : State) : State := s.setZht { s.zht with standbySince := none }

/-- The standby timer is started. -/
def startStandby (s : State) : State := s.setZht { s.zht with standbySince := some s.now }

/-- Travel is STOPPED or UNKNOWN. -/
def TravelState.waits : TravelState → Bool
  | .stopped | .unknown => true
  | .moving | .reversing => false

/-- ZHT at a change of travel state (R44, R45). A standby delay of 0 makes standby active at once. -/
def heatAtTravelChange (old new : TravelState) (s : State) : State :=
  match new with
  | .moving => if s.cfg.heatMode = .standby then setHeatMode .on (stopStandby s) else stopStandby s
  | .reversing => stopStandby s
  | .stopped | .unknown =>
    if old.waits || s.cfg.heatMode != .on then s
    else if s.item 16 = 0 then setHeatMode .standby (stopStandby s)
    else startStandby s

/-- The moment the standby timer has run for the standby delay (R44). -/
def standbyDue (s : State) (since : Time) : Time := since + BitVec.ofInt 32 (s.item 16 * 60000)

/-! ### The commands -/

/-- THERMOCOUPLE_SAMPLE: a zone's sample arrives (R34 to R46). -/
def execThermocoupleSample (zone : ZoneId) (reading : Option Int) (current : Option Nat) (s : State) :
    Host.Outcome State Fault Refusal :=
  .next (unlessHeld (fun s =>
    evaluate zone reading current
      (restartTimeout zone (setZone zone { s.zone zone with lastSample := some s.now } s))) s)

/-- SAMPLE_TIMEOUT: no sample for 1000 ms; the zone is treated as though an invalid reading had arrived, and the timeout
is restarted (R34). -/
def execSampleTimeout (zone : ZoneId) (s : State) : Host.Outcome State Fault Refusal :=
  .next (unlessHeld (fun s =>
    let s := reach (s.zone zone).timeoutDue s
    evaluate zone none none (restartTimeout zone s)) s)

/-- STANDBY_TIMER_EXPIRY: the timer has run for the standby delay; ZHT stops it and sets the heat mode to STANDBY (R44). -/
def execStandbyTimerExpiry (s : State) : Host.Outcome State Fault Refusal :=
  .next (unlessHeld (fun s =>
    match s.zht.standbySince with
    | some t => setHeatMode .standby (stopStandby (reach (standbyDue s t) s))
    | none => s) s)

end Sys2Proof.Machine
end

