-- ==== Sys2Proof/Machine/Sharing.lean ====
section
/-! DEFINITION. The generator share unit's commands (chapter 4): CLAIM_WINDOW_EXPIRY, BACK_OFF_END,
SHED_HOLD_OFF_EXPIRY, DEMAND_PERIOD_EXPIRY, OWN_DEMAND_AGE_LIMIT; and the switching off of every element. -/

namespace Sys2Proof.Machine

/-! ### Every element off -/

/-- A zone's record when the GSU switches every element off under R49. -/
def Zone.dropped (z : Zone) : Zone :=
  { z.switchedOff with
    state := match z.state with
      | .on => .idle
      | .claiming => .want
      | x => x }

/-- A zone's record at HALT entry and at HEAT-SET OFF: its element off, and OFF without a lock unless in FAULT (R47, R48). -/
def Zone.halted (z : Zone) : Zone :=
  if z.state = .fault then z.switchedOff else { z.switchedOff with state := .off, shedLock := none }

/-- Each of the four zone records changed. -/
def mapZones (f : Zone → Zone) (s : State) : State := s.setZht { s.zht with zones := s.zht.zones.map f }

/-- One change of own draw is reported, if the elements' sum has changed; otherwise a DEMAND is queued alone (R65, R70).
So one DEMAND is queued, not one for the change of draw and another for the event (DESIGN CHOICE, log 49). -/
def reportElements (s : State) : State := if drawOf s = s.gsu.ownDraw then queueDemand s else drawChanged s

/-- The GSU switches every element off, abandons a claim in flight and queues a DEMAND (R49, R62, R65, R71): the
claim before the report, and one DEMAND (DESIGN CHOICE, log 49). In LISTEN-ONLY the DEMAND is passed over. -/
def dropElements (s : State) : State := reportElements (abandonClaim (mapZones Zone.dropped s))

/-! ### The decision of a claim -/

/-- The claim of a station in view: of a peer, of age 60 ms or less (R56). -/
def claimInView (s : State) (a : Addr) : Option Claim :=
  if a = s.self then none
  else match s.gsu.view[a] with
    | some (c, t) => if s.age t ≤ 60 then some c else none
    | none => none

/-- A peer's claim is ranked before the own one: a larger need, or an equal need and a lower bay (R60). -/
def rankedBefore (s : State) (c : Claim) (a : Addr) (own : OwnClaim) : Bool :=
  decide (own.need < c.need) || (c.need == own.need && decide (a < s.self))

/-- The power a peer's claim adds to the sum ranked at or before the own claim (R60). -/
def rankedPower (s : State) (own : OwnClaim) (a : Addr) : Nat :=
  match claimInView s a with
  | some c => if rankedBefore s c a own then c.power else 0
  | none => 0

/-- The powers of the claims ranked at or before the own claim (R60). -/
def rankedSum (s : State) (own : OwnClaim) : Nat := (stations.map (rankedPower s own)).sum + own.power

/-- A claim is granted: the element on, the zone ON, the claim none, the draw reported (R60). The need value is recomputed
as the zone leaves the WANT and CLAIMING zones (DEDUCED, log 10; log 45). One DEMAND
shows the draw and the want (DESIGN CHOICE, log 53). -/
def grantClaim (c : OwnClaim) (s : State) : State :=
  let s := setZone c.zone { s.zone c.zone with state := .on, element := true, lowCount := 0 } s
  drawChanged (recomputeNeed (abandonClaim s))

/-- The GSU decides the claim at its window's expiry (R60, R61). -/
def decideClaim (c : OwnClaim) (s : State) : State :=
  if withinLimit s (committedDraw s + rankedSum s c) then grantClaim c s else reportChanges (withdrawToWant s)

/-! ### The commands -/

/-- CLAIM_WINDOW_EXPIRY (R60, R61). -/
def execClaimWindowExpiry (s : State) : Host.Outcome State Fault Refusal :=
  .next (unlessHeld (fun s =>
    match s.gsu.claim with
    | some c => match c.window with
      | some w => decideClaim c (reach w s)
      | none => s
    | none => s) s)

/-- BACK_OFF_END: the back-off has run its time (R61). -/
def execBackOffEnd (s : State) : Host.Outcome State Fault Refusal :=
  .next (unlessHeld (fun s =>
    match s.gsu.backOff with
    | some t => let s := reach t s; s.setGsu { s.gsu with backOff := none }
    | none => s) s)

/-- SHED_HOLD_OFF_EXPIRY: one evaluation from the view at that moment, and source 3 is judged (R66, R68). -/
def execShedHoldOffExpiry (s : State) : Host.Outcome State Fault Refusal :=
  .next (unlessHeld (fun s =>
    match s.gsu.holdOff with
    | some t => let s := reach t s; judgeOverload (evaluateShed (s.setGsu { s.gsu with holdOff := none }))
    | none => s) s)

/-- DEMAND_PERIOD_EXPIRY: a DEMAND is queued and the timer restarts; in LISTEN-ONLY the expiry is passed over and the
timer runs on (R63, R71). -/
def execDemandPeriodExpiry (s : State) : Host.Outcome State Fault Refusal :=
  .next (unlessHeld (fun s =>
    let s := reach s.gsu.periodDue s
    if s.active then queueDemand s else s.setGsu { s.gsu with periodDue := s.gsu.periodDue + 500 }) s)

/-- OWN_DEMAND_AGE_LIMIT: the age of the own DEMAND passes 4000 ms (R49, R65). -/
def execOwnDemandAgeLimit (s : State) : Host.Outcome State Fault Refusal :=
  .next (unlessHeld (fun s =>
    match s.gsu.lastCarried with
    | some t => dropElements (reach (t + 4001) s)
    | none => s) s)

end Sys2Proof.Machine
end

