-- ==== Sys2Proof/Machine/Feeding.lean ====
section
/-! DEFINITION. Feed conveyors and augers (chapter 7): modes and phases, the level and paddle laws, run-on, starvation,
FEED-STATUS; and the commands of the feed sensor and timers. -/

namespace Sys2Proof.Machine

/-- FDC replaced within the state. -/
def setFdcWith (f : Fdc → Fdc) (s : State) : State := s.setFdc (f s.fdc)

/-- FDC is active: the FEED strap is fitted (R113). -/
def feedFitted (s : State) : Bool := s.cfg.straps.feed.isSome

/-- Source 6 is present while the starved flag is set (R126). -/
def judgeStarved (s : State) : State := follow .starved s.fdc.starved s

/-! ### Modes and phases -/

/-- The feed mode changes, with the effects of R116. -/
def changeFeedMode (m : FeedMode) (s : State) : State :=
  if s.fdc.mode = m then s
  else
    let phase := match m with
      | .auto => some (if s.trv.state = .moving then FeedPhase.feeding else FeedPhase.idle)
      | .off | .manual => none
    let s := setFdcWith (fun f => { f with
      mode := m, phase := phase, conveyor := 0, auger := 0, manualConveyor := 0, manualAuger := 0, runOn := none,
      starveSince := none, starved := if m = .off then false else f.starved }) s
    judgeStarved s

/-- Both duties go to 0 and the phase is IDLE, the run-on timer stopped (R123). -/
def feedIdle (s : State) : State :=
  setFdcWith (fun f => { f with phase := some .idle, runOn := none, conveyor := 0, auger := 0 }) s

/-- A run-on starts; with a run-on time of 0 the phase is IDLE at once (R123). -/
def startRunOn (s : State) : State :=
  if 0 < s.item 40 then
    setFdcWith (fun f => { f with
      phase := some .runOn, runOn := some (s.now + BitVec.ofInt 32 (s.item 40 * 1000)) }) s
  else feedIdle s

/-- FDC at a change of travel state, in AUTO (R120). -/
def feedAtTravelChange (old new : TravelState) (s : State) : State :=
  if s.fdc.mode = .auto then
    if new = .moving then setFdcWith (fun f => { f with phase := some .feeding, runOn := none }) s
    else if old = .moving ∧ s.fdc.phase = some .feeding then startRunOn s
    else s
  else s

/-- A FEED-STATUS of the node's own FEED side from another station: feed OFF, source 12 latched (R22, R128). -/
def duplicateFeedSide (side : Nat) (s : State) : State :=
  match s.cfg.straps.feed with
  | some own => if side = sideCode own then raise .conflict (changeFeedMode .off s) else s
  | none => s

/-! ### The evaluation -/

/-- A level reading is valid: not flagged, within 0..1000 (R114). -/
def validLevel : Option Int → Option Int
  | some r => if 0 ≤ r ∧ r ≤ 1000 then some r else none
  | none => none

/-- The level L, if valid: no more than 300 ms old (R114). -/
def levelNow (s : State) : Option Int :=
  match s.fdc.level with
  | some (r, t) => if s.age t ≤ 300 then some r else none
  | none => none

/-- Step 1: the level judged, the paddle read, the degraded flag set or cleared (R115). -/
def judgeLevel (paddleClosed : Bool) (s : State) : State :=
  setFdcWith (fun f => { f with
    judged := levelNow s, degraded := (levelNow s).isNone, paddleClosed := paddleClosed }) s

/-- The level law: the conveyor duty for a level (R121). -/
def levelLaw (setpoint band cMin level : Int) : Int :=
  if setpoint ≤ level then cMin
  else if level ≤ setpoint - band then 1000
  else cMin + ((setpoint - level) * (1000 - cMin) + band / 2) / band

/-- The conveyor duty of an evaluation, by the level law or by the paddle (R121, R122). -/
def conveyorDuty (s : State) : Int :=
  match s.fdc.judged with
  | some l => levelLaw s.cfg.feedSetpoint (s.item 35) (s.item 36) l
  | none => if s.fdc.paddleClosed then s.item 36 else 1000

/-- The auger duty for a conveyor duty (R121). -/
def augerDuty (ratio conveyor : Int) : Int := min 1000 ((conveyor * ratio + 500) / 1000)

/-- Both duties formed and driven (R121, R122). -/
def formDuties (s : State) : State :=
  let c := conveyorDuty s
  setFdcWith (fun f => { f with conveyor := c, auger := augerDuty (s.item 37) c }) s

/-- The chamber is full: the level at or above the setpoint, or with an invalid level the paddle closed (R123). -/
def chamberFull (s : State) : Bool :=
  match s.fdc.judged with
  | some l => decide (s.cfg.feedSetpoint ≤ l)
  | none => s.fdc.paddleClosed

/-- Step 2: the duties of AUTO by phase, event 18 while degraded (R121 to R124). -/
def evaluateAuto (s : State) : State :=
  let s := if s.fdc.judged.isNone then count .degradedEvaluation 0 s else s
  match s.fdc.phase with
  | some .feeding => formDuties s
  | some .runOn =>
    let s := formDuties s
    if chamberFull s then feedIdle s else s
  | some .idle | none => s

/-- The starvation condition at an evaluation (R125). -/
def starving (s : State) : Bool :=
  s.fdc.conveyor == 1000 &&
    match s.fdc.judged with
    | some l => decide (l < s.item 38)
    | none => !s.fdc.paddleClosed

/-- The evaluation finds material again (R126). -/
def recovered (s : State) : Bool :=
  match s.fdc.judged with
  | some l => decide (s.item 38 + 50 ≤ l)
  | none => s.fdc.paddleClosed

/-- STARVED is entered: the flag, the timer none, source 6, event 17 (R125, R126); source 6 before the event (DESIGN
CHOICE, log 56). -/
def enterStarved (s : State) : State :=
  count .starvedEntered 0 (judgeStarved (setFdcWith (fun f => { f with starved := true, starveSince := none }) s))

/-- The starvation timer at an evaluation at which the condition holds and the flag is clear (R125). -/
def starveOn (s : State) : State :=
  match s.fdc.starveSince with
  | none => setFdcWith (fun f => { f with starveSince := some s.now }) s
  | some t => if s.item 39 * 1000 ≤ (s.age t : Int) then enterStarved s else s

/-- Step 3: starvation is judged (R125, R126). -/
def judgeStarvation (s : State) : State :=
  if s.fdc.starved then
    if recovered s then judgeStarved (setFdcWith (fun f => { f with starved := false }) s) else s
  else if starving s then starveOn s
  else setFdcWith (fun f => { f with starveSince := none }) s

/-- The evaluation by mode (R115). -/
def evaluateFeed (paddleClosed : Bool) (s : State) : State :=
  let s := judgeLevel paddleClosed s
  match s.fdc.mode with
  | .off => s
  | .manual => judgeStarvation s
  | .auto => judgeStarvation (evaluateAuto s)

/-! ### FEED-STATUS -/

/-- The level as FEED-STATUS carries it: 65535 while invalid (R127). -/
def levelField : Option Int → Nat
  | some l => l.toNat
  | none => 65535

/-- The feed part a FEED-STATUS filled now carries (R127). -/
def feedStatusNow (side : Side) (s : State) : FeedPart :=
  { side := sideCode side, mode := feedModeCode s.fdc.mode, starved := s.fdc.starved, degraded := s.fdc.degraded,
    level := levelField s.fdc.judged }

/-! ### The commands -/

/-- LEVEL_SENSOR_ARRIVAL: a valid reading replaces the level record; none is judged without the FEED strap (R113, R114). -/
def execLevelSensorArrival (reading : Option Int) (s : State) : Host.Outcome State Fault Refusal :=
  .next (unlessHeld (fun s =>
    match feedFitted s, validLevel reading with
    | true, some r => setFdcWith (fun f => { f with level := some (r, s.now) }) s
    | _, _ => s) s)

/-- FEED_EVALUATION: the 100 ms timer expires and runs on; the paddle is read as it stands (R113 to R126). -/
def execFeedEvaluation (paddleClosed : Bool) (s : State) : Host.Outcome State Fault Refusal :=
  .next (unlessHeld (fun s =>
    let s := reach s.fdc.evalDue s
    let s := setFdcWith (fun f => { f with evalDue := f.evalDue + 100 }) s
    if feedFitted s then evaluateFeed paddleClosed s else s) s)

/-- RUN_ON_EXPIRY: the run-on ends, phase IDLE, both duties 0 at once (R123). -/
def execRunOnExpiry (s : State) : Host.Outcome State Fault Refusal :=
  .next (unlessHeld (fun s =>
    match s.fdc.runOn with
    | some t => feedIdle (reach t s)
    | none => s) s)

/-- FEED_STATUS_TIMER_EXPIRY: a FEED-STATUS is queued in the P list and the timer runs on (R127). -/
def execFeedStatusTimerExpiry (s : State) : Host.Outcome State Fault Refusal :=
  .next (unlessHeld (fun s =>
    match s.cfg.straps.feed with
    | some side =>
      let s := reach s.fdc.statusDue s
      let s := setFdcWith (fun f => { f with statusDue := f.statusDue + 200 }) s
      pushP (.feedStatus (feedStatusNow side s) s.fdc.conveyor.toNat) s
    | none => s) s)

end Sys2Proof.Machine
end

