-- ==== Sys2Proof/Machine/Levelling.lean ====
section
/-! DEFINITION. Levelling (chapters 5 and 6): measurement, duty law, slew, the mode machine with HOLD, trials and
reverts, the partner watch, LEVEL-STATUS; and the commands of its sensors and timers. Duties are signed, DOWN positive. -/

namespace Sys2Proof.Machine

/-- LVC replaced within the state. -/
def setLvcWith (f : Lvc → Lvc) (s : State) : State := s.setLvc (f s.lvc)

/-- LVC is active: the LEV strap is fitted (R72). -/
def levFitted (s : State) : Bool := s.cfg.straps.lev.isSome

/-- The mode is GRADE or SLOPE: the modes in which a cycle computes (6.1). -/
def LevelMode.corrects : LevelMode → Bool
  | .grade | .slope => true
  | .off | .manual | .hold _ => false

/-! ### Measurement -/

/-- A head reading is valid: not echo-lost, within 200..15000 (R74). -/
def validHead : Option Int → Option Int
  | some r => if 200 ≤ r ∧ r ≤ 15000 then some r else none
  | none => none

/-- An inclinometer reading is valid: not flagged, within -1000..1000 (R78). -/
def validIncline : Option Int → Option Int
  | some r => if -1000 ≤ r ∧ r ≤ 1000 then some r else none
  | none => none

/-- The weight and reading of a counted head: weight above 0, reading no more than 150 ms old (R75). -/
def countedHead (s : State) (i : Fin 3) : Option (Int × Int) :=
  let w := s.item (23 + i)
  match s.lvc.heads[i] with
  | some (h, t) => if 0 < w ∧ s.age t ≤ 150 then some (w, h) else none
  | none => none

/-- The counted heads (R75). -/
def countedHeads (s : State) : List (Int × Int) := ([0, 1, 2] : List (Fin 3)).filterMap (countedHead s)

/-- The weighted mean of counted heads, rounded half up (R75). -/
def weightedMean (l : List (Int × Int)) : Int :=
  let w := (l.map (·.1)).sum
  ((l.map fun x => x.1 * x.2).sum + w / 2) / w

/-- The average A, if computable: at least the minimum heads are counted (R75). -/
def average (s : State) : Option Int :=
  let l := countedHeads s
  if s.item 26 ≤ (l.length : Int) then some (weightedMean l) else none

/-- The inclinometer reading Sm, if usable: no more than 150 ms old (R78). -/
def inclination (s : State) : Option Int :=
  match s.lvc.incl with
  | some (r, t) => if s.age t ≤ 150 then some r else none
  | none => none

/-- The grade error e = A - (reference + offset), if computable (R76). A node in GRADE has a reference (R95). -/
def gradeError (s : State) : Option Int :=
  (average s).map fun a => a - (s.lvc.reference.getD 0 + s.lvc.offset)

/-- The slope error: its numerator by the strap side, divided by 100 and rounded half away from zero (R79). -/
def slopeErrorOf (side : Option Side) (sm ss ls : Int) : Int :=
  roundAway ((if side = some .right then ss - sm else sm - ss) * ls) 100

/-- The slope error, if the inclinometer is usable (R78, R79). -/
def slopeError (s : State) : Option Int :=
  (inclination s).map fun sm => slopeErrorOf s.cfg.straps.lev sm s.lvc.slope (s.item 27)

/-- The error of a cycle in the present mode, none if its sensors are insufficient (R80, step 2). -/
def cycleError (s : State) : Option Int := if s.lvc.mode = .slope then slopeError s else gradeError s

/-! ### Duty law and slew -/

/-- The target magnitude for an error of magnitude `e` (R82). -/
def targetMagnitude (g : Gains) (e : Int) : Int :=
  if e ≤ g.d then 0
  else if e < g.p then g.uMin + ((e - g.d) * (g.uMax - g.uMin) + (g.p - g.d) / 2) / (g.p - g.d)
  else g.uMax

/-- The target of a cycle, signed (R82). -/
def target (g : Gains) (e : Int) : Int := e.sign * targetMagnitude g e.natAbs

/-- The output formed from the target and the slew state: reversal, rise, fall (R83). -/
def slewed (limit slew t : Int) : Int :=
  if t ≠ 0 ∧ slew ≠ 0 ∧ t.sign ≠ slew.sign then 0
  else if slew.natAbs < t.natAbs then t.sign * min (t.natAbs : Int) (slew.natAbs + limit)
  else t

/-- The saturation run is judged on the target of the driving set (R84). -/
def judgeSaturation (t uMax : Int) (s : State) : State :=
  if (t.natAbs : Int) = uMax then
    let n := s.lvc.satRun + 1
    if s.item 33 ≤ (n : Int) then count .levellingSaturated 0 (setLvcWith (fun l => { l with satRun := 0 }) s)
    else setLvcWith (fun l => { l with satRun := n }) s
  else setLvcWith (fun l => { l with satRun := 0 }) s

/-! ### Modes -/

/-- The mode changes, with the effects of R93 but the end of a trial, which the cause makes first. -/
def changeMode (m : LevelMode) (s : State) : State :=
  if s.lvc.mode = m then s
  else setLvcWith (fun l => { l with
      mode := m, output := 0, slew := 0, lastError := 0, satRun := 0, paused := false, partnerWatch := none
      jog := if m = .manual then l.jog else none }) s

/-- The capture a trial's end fills (R109). -/
def captureOf (reason : TrialReason) (t : Trial) (s : State) : TrialCapture :=
  { reason := reason, cycles := t.cycles, index := s.trv.index, error := s.lvc.lastError, trialDuty := t.trialDuty,
    guardDuty := t.guardDuty }

/-- A running trial ends with a reason: the capture is filled, the context is idle, WINDOW latches source 5 (R107, R109). -/
def endTrial (reason : TrialReason) (s : State) : State :=
  match s.lvc.trial with
  | some t =>
    let s := setLvcWith (fun l => { l with trial := none, capture := some (captureOf reason t s) }) s
    if reason = .window then raise .trialWindow s else s
  | none => s

/-- The trial reason of a HOLD (R107). -/
def HoldReason.trialReason : HoldReason → TrialReason
  | .sensor => .sensor
  | .partner => .partner
  | .travel => .travel

/-- The correction enters HOLD: a trial ends with its reason, the mode changes, event 15, source 4 (R81, R99). -/
def enterHold (r : HoldReason) (s : State) : State :=
  raise .hold (count .holdEntered 0 (changeMode (.hold r) (endTrial r.trialReason s)))

/-- The levelling mode is set to OFF by a duplicate side, by HALT entry or by a request (R22, R95, R110). -/
def levellingOff (reason : TrialReason) (s : State) : State := changeMode .off (endTrial reason s)

/-- The partner watch is set to the moment the partner's levelling part would be more than 300 ms old (R97). -/
def setWatch (s : State) : State :=
  match partner s with
  | some (a, _) =>
    setLvcWith (fun l => { l with partnerWatch := (s.entry a).level.map fun x => x.2 + 301 }) s
  | none => s

/-- The revert: the valve goes from the trial set to the active set, by the guard duty last formed; while PAUSED output
and slew state stay 0 (R106). -/
def revert (guardDuty : Int) (s : State) : State :=
  if s.lvc.paused then s
  else
    let o := s.lvc.output
    let x := if guardDuty = 0 ∨ o = 0 ∨ guardDuty.sign = o.sign then guardDuty else 0
    setLvcWith (fun l => { l with output := x, slew := x }) s

/-! ### The cycle -/

/-- A driven cycle with no trial: steps 4 and 5 of R80. -/
def driveActive (e : Int) (s : State) : State :=
  let t := target s.lvc.gains e
  let o := slewed s.lvc.gains.slew s.lvc.slew t
  judgeSaturation t s.lvc.gains.uMax (setLvcWith (fun l => { l with output := o, slew := o }) s)

/-- A PAUSED cycle: output and slew state at 0; it does not judge saturation and sets the run to 0 (R84, R85). -/
def pauseCycle (s : State) : State :=
  setLvcWith (fun l => { l with paused := true, output := 0, slew := 0, satRun := 0 }) s

/-- The trial with the two outputs of a cycle as its last duties and its cycles run raised (R104). -/
def Trial.cycled (t : Trial) (o g : Int) : Trial :=
  { t with cycles := min 65535 (t.cycles + 1), trialDuty := o, guardDuty := g }

/-- A cycle is a strike: the last duties differ by more than W (R105). -/
def Trial.isStrike (t : Trial) : Bool := decide (t.w < ((t.trialDuty - t.guardDuty).natAbs : Int))

/-- The strike of a driven cycle is judged; the K-th in a row ends the trial with WINDOW and reverts (R105, R106). -/
def judgeStrike (t : Trial) (s : State) : State :=
  if t.isStrike then
    let s := count .trialStrike 0 (setLvcWith (fun l => { l with trial := some { t with strikes := t.strikes + 1 } }) s)
    if t.k ≤ t.strikes + 1 then revert t.guardDuty (endTrial .window s) else s
  else setLvcWith (fun l => { l with trial := some { t with strikes := 0 } }) s

/-- A driven cycle of a trial (R104, R105). -/
def driveTrial (t : Trial) (e : Int) (s : State) : State :=
  let tt := target t.gains e
  let o := slewed t.gains.slew s.lvc.slew tt
  let g := slewed s.lvc.gains.slew t.guardSlew (target s.lvc.gains e)
  let t := { t.cycled o g with guardSlew := g }
  let s := setLvcWith (fun l => { l with output := o, slew := o, trial := some t }) s
  judgeStrike t (judgeSaturation tt t.gains.uMax s)

/-- A PAUSED cycle of a trial: both outputs are formed and stored, both slew states stay 0, no strike (R104). -/
def pauseTrial (t : Trial) (e : Int) (s : State) : State :=
  let o := slewed t.gains.slew s.lvc.slew (target t.gains e)
  let g := slewed s.lvc.gains.slew t.guardSlew (target s.lvc.gains e)
  pauseCycle (setLvcWith (fun l => { l with trial := some { t.cycled o g with guardSlew := 0 } }) s)

/-- Steps 3 to 5 of a cycle with an error (R80, R104). -/
def cycleOn (e : Int) (s : State) : State :=
  let s := count .levellingCycle 0 (setLvcWith (fun l => { l with lastError := e }) s)
  match s.lvc.trial, s.trv.state == .moving with
  | none, true => driveActive e s
  | none, false => pauseCycle s
  | some t, true => driveTrial t e s
  | some t, false => pauseTrial t e s

/-- The steps of a cycle in GRADE or SLOPE: the partner check of SLOPE, travel, sensors, then the rest (R80, R99). -/
def cycle (s : State) : State :=
  if s.lvc.mode = .slope ∧ !partnerInGrade s then enterHold .partner s
  else if s.trv.state = .unknown then enterHold .travel s
  else match cycleError s with
    | some e => cycleOn e s
    | none => enterHold .sensor s

/-! ### Travel changes and peers -/

/-- LVC at travel leaving MOVING: the output to 0 at once, slew states 0, PAUSED (R85, R104). -/
def pauseAtOnce (s : State) : State :=
  setLvcWith (fun l => { l with
    output := 0, slew := 0, paused := true, trial := l.trial.map fun t => { t with guardSlew := 0 } }) s

/-- LVC at a change of travel state, in GRADE or SLOPE (R81, R85). -/
def levelAtTravelChange (old new : TravelState) (s : State) : State :=
  if s.lvc.mode.corrects then
    match new with
    | .unknown => enterHold .travel s
    | .moving => setLvcWith (fun l => { l with paused := false }) s
    | .stopped | .reversing => if old = .moving then pauseAtOnce s else s
  else s

/-- LVC at the arrival of a LEVEL-STATUS of another station, in SLOPE (R98). -/
def levelStatusHeard (src : Addr) (s : State) : State :=
  if s.lvc.mode = .slope then
    if partnerInGrade s then (if partnerAddress s = src then setWatch s else s) else enterHold .partner s
  else s

/-- A LEVEL-STATUS of the node's own LEV side from another station: levelling OFF, source 12 latched (R22). -/
def duplicateLevelSide (side : Nat) (s : State) : State :=
  match s.cfg.straps.lev with
  | some own => if side = sideCode own then raise .conflict (levellingOff .conflict s) else s
  | none => s

/-! ### LEVEL-STATUS -/

/-- The payload of a LEVEL-STATUS filled now (R101). -/
def levelStatusNow (side : Side) (s : State) : LevelStatus :=
  { side := sideCode side, mode := levelModeCode s.lvc.mode,
    error := if s.lvc.mode.corrects then s.lvc.lastError else 0, duty := s.lvc.output,
    refValid := s.lvc.reference.isSome, trial := s.lvc.trial.isSome }

/-! ### The commands -/

/-- HEAD_READING_ARRIVAL: a valid reading replaces the head's record; none is read without the LEV strap (R72, R74). -/
def execHeadReadingArrival (head : Fin 3) (reading : Option Int) (s : State) : Host.Outcome State Fault Refusal :=
  .next (unlessHeld (fun s =>
    match levFitted s, validHead reading with
    | true, some r => setLvcWith (fun l => { l with heads := l.heads.set head (some (r, s.now)) }) s
    | _, _ => s) s)

/-- INCLINOMETER_ARRIVAL: a valid reading replaces the inclinometer record (R72, R78). -/
def execInclinometerArrival (reading : Option Int) (s : State) : Host.Outcome State Fault Refusal :=
  .next (unlessHeld (fun s =>
    match levFitted s, validIncline reading with
    | true, some r => setLvcWith (fun l => { l with incl := some (r, s.now) }) s
    | _, _ => s) s)

/-- LEVELLING_CYCLE: the 50 ms timer expires and runs on; it is a cycle in GRADE and SLOPE (R80). -/
def execLevellingCycle (s : State) : Host.Outcome State Fault Refusal :=
  .next (unlessHeld (fun s =>
    let s := reach s.lvc.cycleDue s
    let s := setLvcWith (fun l => { l with cycleDue := l.cycleDue + 50 }) s
    if s.lvc.mode.corrects then cycle s else s) s)

/-- PARTNER_WATCH_EXPIRY: the partner lookup is made, and HOLD entered unless it gives a partner in GRADE, whose newer
frame sets the watch (R97; log 30). -/
def execPartnerWatchExpiry (s : State) : Host.Outcome State Fault Refusal :=
  .next (unlessHeld (fun s =>
    match s.lvc.partnerWatch with
    | some w =>
      let s := reach w s
      if s.lvc.mode = .slope then (if partnerInGrade s then setWatch s else enterHold .partner s) else s
    | none => s) s)

/-- JOG_END: the jog's end time is reached; the output goes to 0 (R89). -/
def execJogEnd (s : State) : Host.Outcome State Fault Refusal :=
  .next (unlessHeld (fun s =>
    match s.lvc.jog with
    | some j => setLvcWith (fun l => { l with jog := none, output := 0 }) (reach j.endTime s)
    | none => s) s)

/-- LEVEL_STATUS_TIMER_EXPIRY: a LEVEL-STATUS is queued in the P list and the timer runs on (R100, R101). -/
def execLevelStatusTimerExpiry (s : State) : Host.Outcome State Fault Refusal :=
  .next (unlessHeld (fun s =>
    match s.cfg.straps.lev with
    | some side =>
      let s := reach s.lvc.statusDue s
      let s := setLvcWith (fun l => { l with statusDue := l.statusDue + 100 }) s
      pushP (.levelStatus (levelStatusNow side s)) s
    | none => s) s)

end Sys2Proof.Machine
end

