-- ==== Sys2Proof/Machine/RingStore.lean ====
section
/-! DEFINITION. The record ring (9.1): slots with parity, the seqs held, the write of R150; and the parity check of the
memory check MCK (9.6). -/

namespace Sys2Proof.Machine

/-! ### Slots and parity -/

/-- The slots of the ring (R149). -/
def ringSlots : Nat := 4096

/-- The bytes of a record (9.1). -/
def recordBytes : Nat := 33

/-- The parity bit stored with a byte: the number of ones in the byte and the bit together is even. DESIGN CHOICE, log 9. -/
def parityOf (b : Byte) : Bool := (b.getLsbD 0 ^^ b.getLsbD 1 ^^ b.getLsbD 2 ^^ b.getLsbD 3) ^^
  (b.getLsbD 4 ^^ b.getLsbD 5 ^^ b.getLsbD 6 ^^ b.getLsbD 7)

/-- The contents of a slot that nothing has written since power-up: free values (log 8). -/
def unwrittenSlot (n : Nat) : RingSlot where
  slot := n
  bytes := (List.range recordBytes).map (Config.ringByte n)
  parity := (List.range recordBytes).map (Config.ringParity n)

/-- Slot `n` of the ring. -/
def Ring.read (r : Ring) (n : Nat) : RingSlot :=
  match r.slots.find? (fun x => x.slot == n) with
  | some x => x
  | none => unwrittenSlot n

/-- A slot's contents put in place, the slot numbers strictly rising. -/
def insertSlot (x : RingSlot) : List RingSlot → List RingSlot
  | [] => [x]
  | y :: rest =>
    if x.slot < y.slot then x :: y :: rest
    else if x.slot = y.slot then x :: rest
    else y :: insertSlot x rest

/-- The slot numbers rise strictly above `lo`, and each slot holds 33 bytes and 33 parity bits. -/
def slotsWf : Nat → List RingSlot → Bool
  | _, [] => true
  | lo, x :: rest =>
    decide (lo ≤ x.slot) && decide (x.slot < ringSlots) && x.bytes.length == recordBytes &&
      x.parity.length == recordBytes && slotsWf (x.slot + 1) rest

/-- The canonical form of the ring, with at most 4096 records held (L5). -/
def Ring.wf (r : Ring) : Bool := slotsWf 0 r.slots && decide (r.held ≤ ringSlots)

/-! ### Seqs -/

/-- The oldest seq: (next_seq - held) modulo 2^24 (R149). -/
def Ring.oldest (r : Ring) : Seq := r.nextSeq - BitVec.ofNat 24 r.held

/-- The distance of a seq behind next_seq (R149, R154). -/
def Ring.distance (r : Ring) (s : Seq) : Nat := (r.nextSeq - s).toNat

/-- A seq is held when its distance lies within 1..held (R149). -/
def Ring.holds (r : Ring) (s : Seq) : Bool := decide (1 ≤ r.distance s ∧ r.distance s ≤ r.held)

/-- Record seq lives in slot seq modulo 4096 (R149). -/
def slotOf (s : Seq) : Nat := s.toNat % ringSlots

/-! ### The write -/

/-- A record as a slot stores it; every parity is inverted under an armed parity test (R150, R169). -/
def storedSlot (n : Nat) (record : List Byte) (invert : Bool) : RingSlot :=
  { slot := n, bytes := record, parity := record.map fun b => parityOf b ^^ invert }

/-- Step 1 of the write: the oldest record is replaced in a full ring, otherwise held rises (R150). -/
def makeRoom (s : State) : State :=
  if s.ring.held = ringSlots then
    let s := count .recordOverwritten 0 s
    s.setRing { s.ring with overwritten := min max24 (s.ring.overwritten + 1) }
  else s.setRing { s.ring with held := s.ring.held + 1 }

/-- Steps 2 and 3: the record is stored in its slot, an armed parity test is used up, next_seq rises (R150). -/
def storeRecord (record : List Byte) (s : State) : State :=
  let x := storedSlot (slotOf s.ring.nextSeq) record s.mck.armed
  let s := s.setRing { s.ring with slots := insertSlot x s.ring.slots, nextSeq := s.ring.nextSeq + 1 }
  s.setMck { s.mck with armed := false }

/-- Step 4: a channel in WAIT becomes RECORDS (R150, R161). -/
def Channel.woken (c : Channel) : Channel := if c.state = .wait then { c with state := .records } else c

/-- The ring writes a record under next_seq, in the four steps of R150. -/
def ringWrite (record : List Byte) (s : State) : State :=
  let s := storeRecord record (makeRoom s)
  s.setRdu { s.rdu with channels := s.rdu.channels.map Channel.woken }

/-! ### The memory check -/

/-- Every byte of a slot agrees with its parity (R167). -/
def parityHolds (x : RingSlot) : Bool := x.parity == x.bytes.map parityOf

/-- Source 7 is present while the pending flag is set (R167). -/
def judgeCheck (s : State) : State := follow .checkPending s.mck.pending s

/-- A parity failure of a record read for a channel: event 22, then the capture and the pending flag, or the overflow
flag (R167). -/
def parityFailed (n : Fin 4) (seq : Seq) (s : State) : State :=
  let s := count .parityFailure n s
  if s.mck.pending then s.setMck { s.mck with overflow := true }
  else
    judgeCheck (s.setMck { s.mck with
      capture := some { slot := slotOf seq, seq := seq, reader := n, time := s.now, index := s.trv.index }
      pending := true })

end Sys2Proof.Machine
end

