-- ==== Sys2Proof/Machine/Channels.lean ====
section
/-! DEFINITION. The readout unit's channels (9.2 to 9.5): judging, the steps by which a channel forms its frames, the
bulk arbiter. -/

namespace Sys2Proof.Machine

/-- A channel. -/
def State.channel (s : State) (n : Fin 4) : Channel := s.rdu.channels[n]

/-- A channel replaced. -/
def setChannel (n : Fin 4) (c : Channel) (s : State) : State :=
  s.setRdu { s.rdu with channels := s.rdu.channels.set n c }

/-- A channel with count 0 and the cyclic flag set is unbounded (9.2). -/
def Channel.unbounded (c : Channel) : Bool := c.count == 0 && c.cyclic

/-- A CLOSE is to be sent: by the close-status flag or by owner loss (R162, R165). -/
def Channel.closeSent (c : Channel) : Bool := c.closeFlag || c.status == .ownerLost

/-- A channel enters CLOSING with a close status; with no CLOSE to be sent it becomes IDLE at once, and as at every
return to IDLE its owner becomes none (R165; log 24). -/
def Channel.close (c : Channel) (status : CloseStatus) : Channel :=
  let c := { c with state := .closing, status := status }
  if c.closeSent then c else { c with state := .idle, owner := none }

/-- A channel in RECORDS is judged for exhaustion, then for having caught up with the writer (R159 to R161). -/
def Channel.judged (c : Channel) (nextSeq : Seq) : Channel :=
  if c.state = .records then
    if !c.unbounded && c.remaining == 0 && !c.cyclic then c.close .complete
    else
      let c := if !c.unbounded && c.remaining == 0 then { c with remaining := c.count } else c
      if c.next = nextSeq then { c with state := .wait } else c
  else c

/-- A channel accounts for `k` seqs: next seq rises by them, and the remaining falls unless unbounded (R157, R158). -/
def Channel.advance (c : Channel) (k : Nat) : Channel :=
  { c with
    next := c.next + BitVec.ofNat 24 k
    remaining := if c.unbounded then c.remaining else c.remaining - k }

/-- The channel after a RECORD (R157). -/
def Channel.recordStep (c : Channel) : Channel :=
  { c.advance 1 with recordsSent := min max24 (c.recordsSent + 1) }

/-- The channel after a VOID covering `k` seqs (R157, R158). -/
def Channel.voidStep (c : Channel) (k : Nat) : Channel :=
  { c.advance k with voidsSent := min max24 (c.voidsSent + k) }

/-- The number of seqs a LAPPED VOID covers: up to the oldest seq, cut at the remaining of a bounded channel (R158). -/
def Channel.lapped (c : Channel) (r : Ring) : Nat :=
  let k := (r.oldest - c.next).toNat
  if !c.unbounded && decide (c.remaining < k) then c.remaining else k

/-- The header of a number, read from the state of this moment (R156). -/
def headerBody (s : State) : Nat → Body
  | 0 => .header0 partCode siliconRevision s.cfg.straps s.cfg.node
  | 1 => .header1 s.cfg.valid (s.item 12) (s.item 7) (s.item 2) (s.item 3) (s.item 4) (s.item 5) (s.item 6) (s.item 1)
      s.cfg.width
  | _ => .header2 s.ring.oldest s.ring.nextSeq s.ring.held s.ring.job s.ring.overwritten

/-- A channel replaced by its judgement against the ring. -/
def putJudged (n : Fin 4) (c : Channel) (s : State) : State := setChannel n (c.judged s.ring.nextSeq) s

/-- The channel after a header; after the last one it enters RECORDS and is judged (R156). -/
def headerStep (n : Fin 4) (s : State) : State :=
  let c := s.channel n
  let c := { c with headersLeft := c.headersLeft - 1 }
  if c.headersLeft = 0 then putJudged n { c with state := .records } s else setChannel n c s

/-- The step of a channel in RECORDS whose next seq is held: the copy, checked by MCK (R157, R167). -/
def recordStep (n : Fin 4) (s : State) : State × Body :=
  let c := s.channel n
  let x := s.ring.read (slotOf c.next)
  if parityHolds x then (putJudged n c.recordStep s, .record x.bytes)
  else
    (putJudged n (c.voidStep 1) (count .voidSent n (parityFailed n c.next s)), .void .damaged c.next c.next)

/-- The step of a channel in RECORDS whose next seq is no longer held (R158). -/
def lappedStep (n : Fin 4) (s : State) : State × Body :=
  let c := s.channel n
  let k := c.lapped s.ring
  (putJudged n (c.voidStep k) (countBy .voidSent n k s),
    .void .lapped c.next (c.next + BitVec.ofNat 24 k - 1))

/-- The step of a channel whose CLOSE moves into slot B (R165). -/
def closeStep (n : Fin 4) (s : State) : State × Body :=
  let c := s.channel n
  (setChannel n { c with state := .idle, owner := none } s,
    .close c.status c.recordsSent c.voidsSent c.remaining)

/-- The frame a channel forms, and the state after its step (R156 to R158, R165). -/
def formFrame (n : Fin 4) (s : State) : State × Body :=
  let c := s.channel n
  match c.state with
  | .headers => (headerStep n s, headerBody s (c.headerCount - c.headersLeft))
  | .records => if s.ring.holds c.next then recordStep n s else lappedStep n s
  | _ => closeStep n s

/-- A channel has a frame ready for slot B (9.2, R162). -/
def Channel.hasFrame (c : Channel) : Bool :=
  match c.state with
  | .headers | .records => true
  | .closing => c.closeSent
  | .idle | .wait => false

/-- The lowest-numbered channel that has a frame ready (R162). -/
def readyChannel (s : State) : Option (Fin 4) := fourIds.find? fun n => (s.channel n).hasFrame

/-- The frame a channel sends, addressed to its owner, its number as tag (R155). -/
def channelFrame (n : Fin 4) (c : Channel) (b : Body) : Frame :=
  { dst := c.owner.getD 15, tag := BitVec.ofNat 8 n, body := b, resets := false }

/-- The bulk arbiter takes the frame of a channel and moves it into slot B (R162). -/
def takeFrame (n : Fin 4) (s : State) : State :=
  let c := s.channel n
  let r := formFrame n s
  beginFrame (r.1.setLnk { r.1.lnk with slotB := some (channelFrame n c r.2) })

/-- Whenever slot B is empty and the link ACTIVE, the bulk arbiter fills it from the lowest ready channel (R162). While
the reset line is asserted no channel acts (R152). -/
def fillB (s : State) : State :=
  if s.lnk.slotB.isNone && s.active && !s.resetLine then
    match readyChannel s with
    | some n => takeFrame n s
    | none => s
  else s

/-- A channel of a lost owner: its cyclic flag cleared, CLOSING with OWNER-LOST (R164). -/
def Channel.ownerGone (c : Channel) (a : Addr) : Channel :=
  match c.state with
  | .headers | .records | .wait =>
    if c.owner = some a then { c with cyclic := false }.close .ownerLost else c
  | .idle | .closing => c

/-- The RDU hears that the entry of an address has become silent (R164). -/
def loseOwner (a : Addr) (s : State) : State :=
  fillB (s.setRdu { s.rdu with channels := s.rdu.channels.map (·.ownerGone a) })

end Sys2Proof.Machine
end

