-- ==== Sys2Proof/Machine/Mat.lean ====
section
/-! DEFINITION. Mat temperature intervals (chapter 8): sweeps, lanes, interval flags, the closing of an interval into a
record; the stop time TRV hands over (R30); the commands SWEEP_ARRIVAL and SWEEP_TIMEOUT. -/

namespace Sys2Proof.Machine

/-! ### Lanes -/

/-- A reading adds to a lane: count and sum up to 65535 samples, minimum and maximum always (R133). -/
def Lane.add (l : Lane) (r : Int) : Lane where
  count := if l.count < 65535 then l.count + 1 else l.count
  sum := if l.count < 65535 then l.sum + r else l.sum
  min := some (match l.min with | some m => Min.min m r | none => r)
  max := some (match l.max with | some m => Max.max m r | none => r)

/-- A lane reading is valid: not flagged, within -20.0..300.0 degrees C (R130). -/
def validLane : Option Int → Option Int
  | some r => if -200 ≤ r ∧ r ≤ 3000 then some r else none
  | none => none

/-- One lane after its reading of a sweep. -/
def Lane.take (l : Lane) (reading : Option Int) : Lane :=
  match validLane reading with
  | some r => l.add r
  | none => l

/-- The twelve lanes after a sweep (R133). -/
def addSweep (lanes : Vector Lane 12) (readings : List (Option Int)) : Vector Lane 12 :=
  lanes.zipWith Lane.take (Vector.ofFn fun i : Fin 12 => readings.getD i none)

/-- The mean of a lane in whole degrees, 255 without samples (R138). -/
def Lane.mean (l : Lane) : Nat :=
  if l.count = 0 then 255
  else if l.sum + 5 * (l.count : Int) < 0 then 0
  else Min.min 254 ((l.sum + 5 * (l.count : Int)) / (10 * (l.count : Int))).toNat

/-- A single reading in whole degrees (R139). -/
def wholeDegrees (v : Int) : Nat := if v + 5 < 0 then 0 else Min.min 254 ((v + 5) / 10).toNat

/-- The lesser of two optional readings. -/
def lesser : Option Int → Option Int → Option Int
  | some a, some b => some (Min.min a b)
  | some a, none => some a
  | none, b => b

/-- The greater of two optional readings. -/
def greater : Option Int → Option Int → Option Int
  | some a, some b => some (Max.max a b)
  | some a, none => some a
  | none, b => b

/-- The lowest lane minimum of a set of lanes. -/
def lowestMinimum (lanes : List Lane) : Option Int := lanes.foldl (fun m l => lesser m l.min) none

/-- The highest lane maximum of a set of lanes. -/
def highestMaximum (lanes : List Lane) : Option Int := lanes.foldl (fun m l => greater m l.max) none

/-- An optional temperature as a record byte: 255 for none (R139). -/
def degreesOrNone : Option Int → Nat
  | some v => wholeDegrees v
  | none => 255

/-- A lane mean is cold: not 255, and below the cold threshold (R139). -/
def isCold (threshold : Int) (mean : Nat) : Bool := mean != 255 && decide ((mean : Int) < threshold)

/-- The cold set: one position per lane, lane 0 in the lowest (R139, 11.9). -/
def coldSet (threshold : Int) (means : List Nat) : Bits :=
  (means.zipIdx.map fun (m, i) => if isCold threshold m then bit i else 0).foldl (· ||| ·) 0

/-- The smallest mean in the cold set (R139). -/
def coldestMean (threshold : Int) (means : List Nat) : Nat := (means.filter (isCold threshold)).foldl Min.min 255

/-! ### The stop time TRV keeps -/

/-- TRV adds the time of a STOPPED or UNKNOWN state that is still running to the stop time of an open job (R30). -/
def addStopTime (s : State) : State :=
  if s.trv.jobOpen && (s.trv.state == .stopped || s.trv.state == .unknown) then
    s.setTrv { s.trv with stopMs := s.trv.stopMs + s.age s.trv.stopMark, stopMark := s.now }
  else s

/-- TRV sets its stop time to 0 (R30). -/
def clearStopTime (s : State) : State := s.setTrv { s.trv with stopMs := 0, stopMark := s.now }

/-! ### Building a record -/

/-- The lane means of the open interval (R138). -/
def laneMeans (m : Msi) : List Nat := m.lanes.toList.map Lane.mean

/-- The job time of the record, in 0.1 s (R140); 0 with no job start time (DESIGN CHOICE, log 36). -/
def jobTime (s : State) : Nat :=
  if s.msi.jobSat then max24
  else match s.msi.jobStart with
    | some t => s.age t / 100
    | none => 0

/-- The 33 bytes of the record (R137 to R140; layout in 11.9). -/
def buildRecord (span : Nat) (s : State) : List Byte :=
  let means := laneMeans s.msi
  let lanes := s.msi.lanes.toList
  bytesOf 3 s.ring.nextSeq.toNat ++ bytesOf 3 s.msi.openIndex ++ bytesOf 1 span ++ [s.ring.job] ++
    bytesOf 1 s.cfg.straps.bay ++ bytesOf 2 ((s.cfg.width + 5) / 10).toNat ++ means.map (BitVec.ofNat 8) ++
    bytesOf 1 (degreesOrNone (lowestMinimum lanes)) ++ bytesOf 1 (degreesOrNone (highestMaximum lanes)) ++
    bytesOf 2 (coldSet (s.item 41) means).toNat ++ bytesOf 2 s.msi.flags.toNat ++
    bytesOf 1 (Min.min 255 (s.trv.stopMs / 1000)) ++ bytesOf 3 (jobTime s)

/-- MSI judges the job time saturated flag (R140). -/
def judgeJobTime (s : State) : State :=
  match s.msi.accumulating, s.msi.jobStart with
  | true, some t => if 1677721500 ≤ s.age t then s.setMsi { s.msi with jobSat := true } else s
  | _, _ => s

/-- The COLD-SPOT of a close (R145). -/
def coldSpotNow (s : State) : ColdSpot :=
  let means := laneMeans s.msi
  { bay := s.cfg.straps.bay, interval := s.msi.openIndex, cold := coldSet (s.item 41) means,
    coldest := coldestMean (s.item 41) means }

/-- The last-record-cold flag follows the cold set; a change is handed to the GSU, which forms the need from the present
deficits (R54, R146; log 45). -/
def setLastCold (cold : Bool) (s : State) : State :=
  if s.msi.lastCold = cold then s else recomputeNeed (s.setMsi { s.msi with lastCold := cold })

/-- A close acts on its cold set (R144 to R146). -/
def actOnCold (c : ColdSpot) (s : State) : State :=
  if c.cold = 0 then setLastCold false s else setLastCold true (pushP (.coldSpot c) s)

/-- The open interval is closed into a record of a span: the stop time taken, the record written, event 19, the cold set
acted on (R30, R137 to R141). A channel that the write wakes may move its frame into an empty slot B at once (R161), before
event 19 is counted (DESIGN CHOICE, log 56). -/
def closeInterval (span : Nat) (s : State) : State :=
  let s := addStopTime (judgeJobTime s)
  let record := buildRecord span s
  let spot := coldSpotNow s
  let s := fillB (ringWrite record (clearStopTime s))
  actOnCold spot (count .recordClosed 0 s)

/-- The accumulators and flags cleared, and the open index replaced (R141). -/
def openInterval (index : Nat) (s : State) : State :=
  s.setMsi { s.msi with lanes := Vector.replicate 12 Lane.empty, flags := 0, openIndex := index }

/-- A new interval index handed on by TRV closes the open interval if it exceeds the open index; the span is the jump,
clamped to 255 (R136). -/
def handIndex (index : Nat) (s : State) : State :=
  if accumulates s && decide (s.msi.openIndex < index) then
    openInterval index (closeInterval (Min.min 255 (index - s.msi.openIndex)) s)
  else s

/-! ### Interval flags at a sweep -/

/-- A flag is raised if its condition holds. -/
def raiseIf (f : IntervalFlag) (c : Bool) (s : State) : State := if c then raiseFlag f s else s

/-- The six conditions judged at a sweep (R134). -/
def judgeFlags (s : State) : State :=
  let s := raiseIf .notReady (!s.zht.ready) s
  let s := raiseIf .starved (feedStarved s) s
  let s := raiseIf .levelManual (!levellingAuto s) s
  let s := raiseIf .stopped (s.trv.state == .stopped || s.trv.state == .unknown) s
  let s := raiseIf .reversed (s.trv.state == .reversing) s
  raiseIf .halt (s.cfg.node == .halt) s

/-- An empty sweep, arrived or made by the timeout (R130, R131, R134). -/
def emptySweep (s : State) : State := raiseFlag .scannerFault (judgeFlags (raise .scanner (judgeJobTime s)))

/-- The sweep timeout is restarted (R130). -/
def restartSweep (s : State) : State := s.setMsi { s.msi with sweepDue := s.now + 300 }

/-- A sweep with at least one valid reading (R131, R133, R134). -/
def takeSweep (readings : List (Option Int)) (s : State) : State :=
  let s := lower .scanner (judgeJobTime s)
  let s := if accumulates s then s.setMsi { s.msi with lanes := addSweep s.msi.lanes readings } else s
  judgeFlags s

/-- The invalid readings of a sweep (R130). -/
def invalidReadings (readings : List (Option Int)) : Nat := (readings.filter fun r => (validLane r).isNone).length

/-! ### The commands -/

/-- SWEEP_ARRIVAL: a sweep of twelve readings arrives (R130 to R134, R140). Event 23 is counted before source 10 is judged
(DESIGN CHOICE, log 56). -/
def execSweepArrival (readings : List (Option Int)) (s : State) : Host.Outcome State Fault Refusal :=
  if readings.length = 12 then
    .next (unlessHeld (fun s =>
      let s := countBy .invalidLane 0 (invalidReadings readings) (restartSweep s)
      if invalidReadings readings = 12 then emptySweep s else takeSweep readings s) s)
  else .fault .illFormed

/-- SWEEP_TIMEOUT: no sweep for 300 ms; an empty sweep without event 23 (R130). -/
def execSweepTimeout (s : State) : Host.Outcome State Fault Refusal :=
  .next (unlessHeld (fun s => emptySweep (restartSweep (reach s.msi.sweepDue s))) s)

end Sys2Proof.Machine
end

