-- ==== Sys2Proof/Machine/Tracking.lean ====
section
/-! DEFINITION. The travel tracker (2.4, 2.5): frames, discontinuity, motion and travel state, job travel and the interval
index, the starting and ending of a job; the command TRAVEL_TIMER_EXPIRY. -/

namespace Sys2Proof.Machine

/-- TRV replaced within the state. -/
def setTrvWith (f : Trv → Trv) (s : State) : State := s.setTrv (f s.trv)

/-! ### Interpolation -/

/-- The left track position x_L in mm (item 5). -/
def State.leftTrack (s : State) : Int := s.item 5 * 10

/-- The right track position x_R in mm (item 6). -/
def State.rightTrack (s : State) : Int := s.item 6 * 10

/-- The travel at the bay centre from the travels of the two tracks, the quotient rounded half away from zero (R26, R28). -/
def interpolate (l r centre xl xr : Int) : Int := l + roundAway ((r - l) * (centre - xl)) (xr - xl)

/-- The travel at the bay centre as it stands, from the wrapping differences of two counts (R26, R28). -/
def centreTravel (s : State) (l r : TrackCount) : Int :=
  interpolate l.toInt r.toInt s.cfg.centre s.leftTrack s.rightTrack

/-! ### Travel state -/

/-- A change of travel state: the stop time added at a change out of STOPPED or UNKNOWN, then LVC, FDC and ZHT act on the
change (R26, R30), one after the other in that order (DESIGN CHOICE, log 61). MSI reads the state at its sweeps. -/
def setTravelState (new : TravelState) (s : State) : State :=
  let old := s.trv.state
  if old = new then s
  else
    let s := setTrvWith (fun t => { t with state := new, stopMark := s.now }) (addStopTime s)
    heatAtTravelChange old new (feedAtTravelChange old new (levelAtTravelChange old new s))

/-- The net motion: the sum of the motion list (R26). -/
def netMotion (l : List (Int × Time)) : Int := (l.map (·.1)).sum

/-- The travel state for a net motion (R26). -/
def stateOfMotion (n : Int) : TravelState := if 5 ≤ n then .moving else if n ≤ -5 then .reversing else .stopped

/-- The oldest increment is added into the next-oldest when the list is full (R26). -/
def mergeOldest : List (Int × Time) → List (Int × Time)
  | a :: b :: rest => (a.1 + b.1, b.2) :: rest
  | l => l

/-- An increment joins the motion list of at most 40; increments older than 1000 ms leave it (R26). -/
def addMotion (inc : Int) (now : Time) (l : List (Int × Time)) : List (Int × Time) :=
  let l := if 40 ≤ l.length then mergeOldest l else l
  (l ++ [(inc, now)]).filter fun x => age now x.2 ≤ 1000

/-! ### Job travel and the interval index -/

/-- The interval index for the base and the high-water travel, held at 16777215 (R29). -/
def indexOf (baseIndex : Nat) (baseTravel highWater interval : Int) : Nat :=
  min max24 (baseIndex + ((highWater - baseTravel) / interval).toNat)

/-- TRV recomputes the interval index and hands it to MSI (R29). An interval length changed with a job open may lower it
(DESIGN CHOICE, log 43). -/
def updateIndex (s : State) : State :=
  let i := indexOf s.trv.baseIndex s.trv.baseTravel s.trv.highWater (s.item 7)
  handIndex i (setTrvWith (fun t => { t with index := i }) s)

/-- Bay travel and high-water travel from the counts of a frame (R28), then the index (R29). -/
def updateBayTravel (left right : TrackCount) (s : State) : State :=
  match s.trv.jobBase with
  | some (l, r) =>
    let b := centreTravel s (left - l) (right - r)
    updateIndex (setTrvWith (fun t => { t with bayTravel := some b, highWater := max t.highWater b }) s)
  | none => s

/-- The four steps of a discontinuity with a job open (R25). -/
def rebase (left right : TrackCount) (s : State) : State :=
  let s := raiseFlag .travelLost s
  let s := setTrvWith (fun t => { t with
    baseIndex := t.index + 1, baseTravel := 0, highWater := 0, jobBase := some (left, right) }) s
  updateBayTravel left right s

/-! ### Frames -/

/-- A frame is a repeat: of the same source, with the last accepted sequence number (R24). -/
def isRepeat (src : Addr) (f : Travel) (last : Option LastFrame) : Bool :=
  match last with
  | some x => x.src == src && x.seq == some f.seq
  | none => false

/-- The magnitude of a wrapping difference exceeds 2000 mm (R25). -/
def jumps (a b : TrackCount) : Bool := decide (2000 < (a - b).toInt.natAbs)

/-- An accepted frame is a discontinuity (R25). -/
def isDiscontinuity (src : Addr) (f : Travel) (last : Option LastFrame) : Bool :=
  match last with
  | some x => x.src != src || jumps f.left x.left || jumps f.right x.right
  | none => false

/-- The increment of an accepted frame: 0 at a discontinuity, none for the first frame after a reset (R25, R26). -/
def incrementOf (src : Addr) (f : Travel) (s : State) : Option Int :=
  match s.trv.last with
  | none => none
  | some x =>
    if x.time.isNone then none
    else if isDiscontinuity src f s.trv.last then some 0
    else some (centreTravel s (f.left - x.left) (f.right - x.right))

/-- The motion list takes an increment and the travel state is set from the net motion (R26). -/
def judgeMotion (inc : Option Int) (s : State) : State :=
  let s := match inc with
    | some i => setTrvWith (fun t => { t with motion := addMotion i s.now t.motion }) s
    | none => s
  setTravelState (stateOfMotion (netMotion s.trv.motion)) s

/-- An accepted frame (R24 to R29). At a discontinuity the four steps of R25 come before the motion judgement (DESIGN CHOICE,
log 42); at any other frame bay travel and index come behind it (DESIGN CHOICE, log 61). -/
def acceptFrame (src : Addr) (f : Travel) (s : State) : State :=
  let cut := isDiscontinuity src f s.trv.last
  let inc := incrementOf src f s
  let s := if cut && s.trv.jobOpen then rebase f.left f.right s else s
  let s := judgeMotion inc s
  let s := if !cut && s.trv.jobOpen then updateBayTravel f.left f.right s else s
  setTrvWith (fun t => { t with
    last := some { src := src, left := f.left, right := f.right, seq := some f.seq, time := some s.now } }) s

/-- TRV acts on a TRAVEL frame handed on by PTB (R24). -/
def trackFrame (src : Addr) (f : Travel) (s : State) : State :=
  if isRepeat src f s.trv.last then s else acceptFrame src f s

/-! ### The timer -/

/-- No frame has been accepted for more than 500 ms; the last frame before a warm reset counts as long past (R27, R33). -/
def frameOverdue (s : State) : Bool :=
  match s.trv.last with
  | some x => match x.time with
    | some t => decide (500 < s.age t)
    | none => true
  | none => true

/-- The item of event 24: the source of the last accepted TRAVEL frame, or 15 if there is none (R171). -/
def travelSource (s : State) : Nat :=
  match s.trv.last with
  | some x => x.src
  | none => 15

/-- Travel becomes UNKNOWN by the timer (R27). -/
def loseTravel (s : State) : State :=
  let s := count .travelUnknown (travelSource s) (setTrvWith (fun t => { t with motion := [] }) s)
  let s := if s.trv.jobOpen then raiseFlag .travelLost s else s
  setTravelState .unknown s

/-! ### Jobs -/

/-- MSI opens interval 0 of a new job (R142). -/
def openJob (s : State) : State :=
  let s := openInterval 0 s
  s.setMsi { s.msi with accumulating := true, jobStart := some s.now, jobSat := false }

/-- The five steps of a taken JOB START (R31, R142). -/
def startJob (s : State) : State :=
  let s := if s.trv.jobOpen then closeInterval 1 s else s
  let s := s.setRing { s.ring with job := s.ring.job + 1 }
  let s := setTrvWith (fun t => { t with
    jobBase := t.last.map fun f => (f.left, f.right)
    bayTravel := none, highWater := 0, baseIndex := 0, baseTravel := 0, index := 0, jobOpen := true }) s
  openJob (clearStopTime s)

/-- A taken JOB END (R32, R143). -/
def endJob (s : State) : State :=
  if s.trv.jobOpen then
    let s := closeInterval 1 s
    let s := clearStopTime (setTrvWith (fun t => { t with jobOpen := false }) s)
    let s := openInterval s.msi.openIndex s
    s.setMsi { s.msi with accumulating := false }
  else s

/-! ### The command -/

/-- TRAVEL_TIMER_EXPIRY: the 100 ms timer expires and runs on; travel becomes UNKNOWN if no frame has been accepted for
more than 500 ms (R27). -/
def execTravelTimerExpiry (s : State) : Host.Outcome State Fault Refusal :=
  .next (unlessHeld (fun s =>
    let s := reach s.trv.timerDue s
    let s := setTrvWith (fun t => { t with timerDue := t.timerDue + 100 }) s
    if s.trv.state ≠ .unknown ∧ frameOverdue s then loseTravel s else s) s)

end Sys2Proof.Machine
end

