-- ==== Sys2Proof/Machine/NodeControl.lean ====
section
/-! DEFINITION. Node control (chapter 1): geometry, the check value, RUN entry and HALT entry, power-up and warm reset;
the commands of the supply, the reset line, the HALT input, the extension sensor and the NODE-RESET bound. -/

namespace Sys2Proof.Machine

/-! ### Geometry -/

/-- The extension in mm for a reading e: 0 without the EXT strap (R2). -/
def extensionMm (ext : Bool) (e travel : Int) : Int := if ext then (e * (travel * 10) + 500) / 1000 else 0

/-- The bay centre in mm, a half millimetre rounded away from zero; a side of 0 counts as left (R2). -/
def centreOf (side inner width : Int) : Int :=
  roundAway (if side = 2 then 2 * (inner * 10) + width else 2 * (inner * 10) - width) 2

/-- Width and centre recomputed from the committed items and the extension (R2). -/
def Cfg.measured (c : Cfg) : Cfg :=
  let w := itemOf c.committed 3 * 10 + extensionMm c.straps.ext c.ext (itemOf c.committed 4)
  { c with width := w, centre := centreOf (itemOf c.committed 1) (itemOf c.committed 2) w }

/-! ### The check value -/

/-- The strap code of the check value (R8). -/
def strapSum (p : Straps) : Nat :=
  p.bay + 8 * strapCode p.lev + 32 * strapCode p.feed + (if p.ext then 128 else 0)

/-- The sum of the items, each taken modulo 65536 (R8). -/
def itemSum (items : Vector Int 44) : Nat := (items.toList.map fun v => (BitVec.ofInt 16 v).toNat).sum

/-- The check value of a committed configuration (R8). -/
def checkValue (items : Vector Int 44) (p : Straps) : BitVec 16 :=
  BitVec.ofNat 16 (65535 - (itemSum items + strapSum p) % 65536)

/-- The gain set that items 28 to 32 hold (5.1). -/
def gainsOf (items : Vector Int 44) : Gains :=
  { d := itemOf items 28, p := itemOf items 29, uMin := itemOf items 30, uMax := itemOf items 31, slew := itemOf items 32 }

/-- Items 28 to 32 replaced by a gain set. -/
def putGains (g : Gains) (items : Vector Int 44) : Vector Int 44 :=
  putItem (putItem (putItem (putItem (putItem items 28 g.d) 29 g.p) 30 g.uMin) 31 g.uMax) 32 g.slew

/-- CFG stores a gain set in the committed items with the new check value (R8, R90, R108). -/
def storeGains (g : Gains) (s : State) : State :=
  let items := putGains g s.cfg.committed
  s.setCfg { s.cfg with committed := items, check := checkValue items s.cfg.keptStraps }

/-! ### RUN and HALT -/

/-- The node state is replaced. -/
def setNode (n : NodeState) (s : State) : State := s.setCfg { s.cfg with node := n }

/-- HALT entry (R6, R48, R62, R70, R110, R128): elements off, zones OFF unless in FAULT, the ready flag clear, the claim
abandoned, levelling and feed OFF, one report of the draw or a DEMAND alone. The claim is abandoned before the report
(DESIGN CHOICE, log 49), and one DEMAND shows all that has changed (DESIGN CHOICE, log 53). -/
def haltEntry (s : State) : State :=
  let s := setNode .halt s
  let s := changeFeedMode .off (levellingOff .halt s)
  reportElements (abandonClaim (clearReady (mapZones Zone.halted s)))

/-- If the HALT input is asserted at the moment RUN is entered, the node enters HALT at once (R5). -/
def haltIfAsserted (s : State) : State := if s.haltInput then haltEntry s else s

/-- RUN is entered: the node state, and the DEMAND that shows it (R5, R70). -/
def runEntry (s : State) : State := reportChanges (setNode .run s)

/-! ### Power-up -/

/-- The machine at power-up with the strap pins as they stand (R1, R11); the HALT input keeps its level. -/
def powered (pins : StrapPins) (s : State) : State :=
  { State.reset with
    pins := pins
    strapReadings := s.strapReadings
    haltInput := s.haltInput
    cfg := { Cfg.reset with straps := readStraps pins }
    pending := s.pending }

/-- The sources that a reset itself makes present: 12 for a fourth strap code or a damaged configuration, 1 for an
asserted HALT input (R1, R12, R175). -/
def latchAtReset (conflict : Bool) (s : State) : State :=
  let s := if conflict then raise .conflict s else s
  if s.haltInput then raise .haltInput s else s

/-- POWER_UP (R11). -/
def powerUp (pins : StrapPins) (s : State) : State := latchAtReset (fourthCode pins) (powered pins s)

/-! ### Warm reset -/

/-- The retained configuration is sound under a strap reading (R12). -/
def isSound (c : Cfg) (p : Straps) : Bool := c.valid && checkValue c.committed p == c.check

/-- CFG at a warm reset, in the four steps of R12. With a sound configuration the working items stand as they were (DESIGN
CHOICE, log 41). With a damaged one the zone setpoints and the strap values kept by the last commit, to which no rule gives
a value there, stand as they were (DESIGN CHOICE, log 60). -/
def Cfg.warmReset (c : Cfg) (p : Straps) : Cfg :=
  if isSound c p then ({ c with node := .run, straps := p, ext := 0 } : Cfg).measured
  else
    ({ c with node := .setup, straps := p, ext := 0, working := defaultItems, committed := defaultItems, valid := false,
              check := 0, heatMode := .off } : Cfg).measured

/-- LNK at a warm reset (R194). -/
def Lnk.warmReset : Lnk := { Lnk.reset with slotP := none }

/-- PTB at a warm reset (R15); its timer runs on. -/
def Ptb.warmReset (p : Ptb) : Ptb := { p with entries := Vector.replicate 16 Entry.empty }

/-- TRV at a warm reset (R33). -/
def Trv.warmReset (t : Trv) (now : Time) : Trv :=
  { t with
    last := t.last.map fun f => { f with seq := none, time := none }
    state := .unknown, motion := [], bayTravel := none, stopMs := 0, stopMark := now }

/-- ZHT at a warm reset: the standby timer starts if the kept heat mode is ON (R51). -/
def Zht.warmReset (now : Time) (m : HeatMode) : Zht :=
  { Zht.reset now with standbySince := if m = .on then some now else none }

/-- MSI at a warm reset: RESTART is raised on the open interval of an open job (R148). -/
def Msi.warmReset (m : Msi) (now : Time) : Msi :=
  { m with
    lanes := Vector.replicate 12 Lane.empty
    flags := if m.accumulating then bit IntervalFlag.restart.position else 0
    sweepDue := now + 300 }

/-- Every block at its warm-reset values, before ALR's latches and the first DEMAND. -/
def resetBlocks (pins : StrapPins) (s : State) : State :=
  let c := s.cfg.warmReset (readStraps pins)
  { s with
    resetLine := false
    pins := pins
    cfg := c
    lnk := Lnk.warmReset
    ptb := s.ptb.warmReset
    trv := s.trv.warmReset s.now
    zht := Zht.warmReset s.now c.heatMode
    gsu := Gsu.reset s.now
    lvc := Lvc.reset s.now (gainsOf c.committed)
    fdc := Fdc.reset s.now s.fdc.paddleClosed
    msi := s.msi.warmReset s.now
    rdu := Rdu.reset
    mck := Mck.reset
    evc := Evc.reset
    alr := Alr.reset }

/-- The warm reset (R12): the straps read afresh, every block reset, the latches the reset causes, the first DEMAND, and
HALT at once if RUN was entered with the HALT input asserted (R5). -/
def warmReset (pins : StrapPins) (s : State) : State :=
  let damaged := !isSound s.cfg (readStraps pins)
  let s := latchAtReset (damaged || fourthCode pins) (resetBlocks pins s)
  let s := queueDemand (recomputeNeed s)
  if s.cfg.node = .run then haltIfAsserted s else s

/-- The warm reset that a NODE-RESET starts (R13). It reads the straps as the pins then stand (R1, R12): levels that no
command carries, and of which nothing is known. FREE VALUE, log 4. -/
def resetAtNodeReset (s : State) : State :=
  warmReset (Config.strapLevels s.strapReadings) (s.setStrapReadings (s.strapReadings + 1))

/-! ### The reset line -/

/-- The reset line is asserted: no frame is sent and every waiting one is discarded, every element is off, every duty 0
(R12, R89, R194). -/
def holdReset (s : State) : State :=
  let s := mapZones Zone.switchedOff (s.setResetLine true)
  let s := s.setGsu { s.gsu with ownDraw := 0 }
  let s := setLvcWith (fun l => { l with output := 0, slew := 0, jog := none }) s
  let s := setFdcWith (fun f => { f with conveyor := 0, auger := 0 }) s
  s.setLnk { s.lnk with
    slotU := none, slotP := none, slotB := none, uList := [], pList := [], sending := none, lineIdle := false }

/-! ### The commands -/

/-- POWER_UP: supply is applied (R11). -/
def execPowerUp (pins : StrapPins) (s : State) : Host.Outcome State Fault Refusal := .next (powerUp pins s)

/-- RESET_LINE_ASSERTED (R12). -/
def execResetLineAsserted (s : State) : Host.Outcome State Fault Refusal := .next (holdReset s)

/-- WARM_RESET: the line is released, or a NODE-RESET reaches its point; the straps are read as the pins stand (R12). -/
def execWarmReset (pins : StrapPins) (s : State) : Host.Outcome State Fault Refusal := .next (warmReset pins s)

/-- HALT_INPUT_ASSERTED: source 1, and in RUN HALT entry (R6); source 1 first (DESIGN CHOICE, log 56). -/
def execHaltInputAsserted (s : State) : Host.Outcome State Fault Refusal :=
  .next (unlessHeld (fun s =>
    let s := raise .haltInput s
    if s.cfg.node = .run then haltEntry s else s) (s.setHaltInput true))

/-- HALT_INPUT_RELEASED: source 1 becomes absent; the node state stands (R6, R7). -/
def execHaltInputReleased (s : State) : Host.Outcome State Fault Refusal :=
  .next (unlessHeld (lower .haltInput) (s.setHaltInput false))

/-- EXTENSION_SENSOR_ARRIVAL: a valid reading on an EXT bay replaces e, and width and centre are recomputed (R2). -/
def execExtensionSensorArrival (reading : Option Int) (s : State) : Host.Outcome State Fault Refusal :=
  .next (unlessHeld (fun s =>
    match reading with
    | some e =>
      if s.cfg.straps.ext && decide (0 ≤ e ∧ e ≤ 1000) then s.setCfg ({ s.cfg with ext := e } : Cfg).measured else s
    | none => s) s)

/-- NODE_RESET_TIMEOUT: 100 ms after a NODE-RESET was taken its warm reset starts, which reads the
straps as the pins then stand (R1, R12, R13). -/
def execNodeResetTimeout (s : State) : Host.Outcome State Fault Refusal :=
  .next (unlessHeld (fun s =>
    match s.lnk.resetPending with
    | some t => resetAtNodeReset (reach (t + 100) s)
    | none => s) s)

end Sys2Proof.Machine
end

