-- ==== Sys2Proof/Machine/Requests.lean ====
section
/-! DEFINITION. The intake of requests (R190), the state gate (R3), the REPLY and its event (R191); the commands
REQUEST_DROPPED and UNASSIGNED_REQUEST. -/

namespace Sys2Proof.Machine

/-- What a request comes to: the state after its action, the outcome, the content of the REPLY (R190, R191). -/
structure Answer where
  state : State
  code : ReplyCode
  content : Content
  deriving DecidableEq, Repr

/-- A refusal or UNKNOWN without content changes nothing (R191). -/
def refuse (code : ReplyCode) (s : State) : Answer := { state := s, code := code, content := .empty }

/-- A request performed, DONE. -/
def done (content : Content) (s : State) : Answer := { state := s, code := .done, content := content }

/-! ### The state gate (R3) -/

/-- CONFIG-SET and CONFIG-COMMIT pass in SETUP. -/
def gateSetup (s : State) : Bool := s.cfg.node == .setup

/-- LEVEL-MODE, FEED and JOB START pass in RUN. -/
def gateRun (s : State) : Bool := s.cfg.node == .run

/-- NODE-RESUME passes in HALT. -/
def gateHalt (s : State) : Bool := s.cfg.node == .halt

/-- HEAT-SET, LEVEL-SET, LEVEL-ZERO, LEVEL-GAINS, LEVEL-TRIAL and JOB END pass in RUN and HALT. -/
def gateWork (s : State) : Bool := s.cfg.node != .setup

/-- NODE-RESET, IDENT-READ, READOUT, COUNTER, ALERT and CHECK pass in every state. -/
def gateAny (_ : State) : Bool := true

/-- The gate reads the sub-operation byte of a JOB: START passes in RUN, anything else in RUN and HALT (R190). -/
def gateJob (payload : List Byte) (s : State) : Bool :=
  match payload with
  | b :: _ => if b = 1 then gateRun s else gateWork s
  | [] => gateWork s

/-! ### The classes of the requests (R190) -/

/-- The requests, by the names of R190's class table. -/
inductive RequestKind where
  | configSet
  | configCommit
  | nodeResume
  | nodeReset
  | identRead
  | heatSet
  | levelMode
  | levelSet
  | levelZero
  | levelGains
  | levelTrial
  | feed
  | job
  | readout
  | counter
  | alert
  | check
  deriving DecidableEq, Repr

/-- The class that a request carries (R190). -/
def RequestKind.frameClass : RequestKind → Nat
  | .configSet => 32
  | .configCommit => 33
  | .nodeResume => 34
  | .nodeReset => 35
  | .identRead => 36
  | .heatSet => 37
  | .levelMode => 38
  | .levelSet => 39
  | .levelZero => 40
  | .levelGains => 41
  | .levelTrial => 42
  | .feed => 43
  | .job => 44
  | .readout => 45
  | .counter => 46
  | .alert => 47
  | .check => 48

/-- The requests in the order of their classes. -/
def requestKinds : List RequestKind :=
  [.configSet, .configCommit, .nodeResume, .nodeReset, .identRead, .heatSet, .levelMode, .levelSet, .levelZero, .levelGains,
   .levelTrial, .feed, .job, .readout, .counter, .alert, .check]

/-- The request that a class of 32..48 is; 49..55 are unassigned, any other is no request (R190). -/
def requestOfClass (cls : Nat) : Option RequestKind := requestKinds.find? fun k => k.frameClass == cls

/-- The state gate of a request (R3); that of JOB reads its sub-operation (R190). -/
def RequestKind.gate (k : RequestKind) (payload : List Byte) : State → Bool :=
  match k with
  | .configSet | .configCommit => gateSetup
  | .nodeResume => gateHalt
  | .levelMode | .feed => gateRun
  | .heatSet | .levelSet | .levelZero | .levelGains | .levelTrial => gateWork
  | .job => gateJob payload
  | .nodeReset | .identRead | .readout | .counter | .alert | .check => gateAny

/-! ### The REPLY -/

/-- The frames waiting in slot U and its list. -/
def waitingU (s : State) : Nat := s.lnk.slotU.toList.length + s.lnk.uList.length

/-- A REPLY without its outcome, which keeps the place of the request's REPLY in the U list while the request acts
(log 11). -/
def openReply (src : Addr) (tag : Byte) : Frame :=
  { dst := src, tag := tag, body := .reply .unknown .empty, resets := false }

/-- The `n`-th frame of slot U and its list replaced. -/
def putReply (n : Nat) (f : Frame) (s : State) : State :=
  if n = 0 then s.setLnk { s.lnk with slotU := some f }
  else s.setLnk { s.lnk with uList := s.lnk.uList.set (n - 1) f }

/-- The REPLY of an answer (R191); that to a taken NODE-RESET is marked (R188). -/
def replyFrame (src : Addr) (tag : Byte) (a : Answer) : Frame :=
  { dst := src, tag := tag, body := .reply a.code a.content, resets := a.state.lnk.resetPending.isSome }

/-- Event 5 for a request performed, event 6 for a refusal, with the requester as item (R191). -/
def countAnswer (src : Addr) (code : ReplyCode) (s : State) : State :=
  count (if code.performed then .requestTaken else .requestRefused) src s

/-- A taken request: the gate, the action of the owning block, the REPLY, its event (R190, R191). The gate's REFUSED-STATE
carries no content, LEVEL-ZERO's included (DESIGN CHOICE, log 51). -/
def answer (src : Addr) (tag : Byte) (gate : State → Bool) (act : State → Answer) (s : State) : State :=
  let n := waitingU s
  let s := pushU (openReply src tag) s
  let a := if gate s then act s else refuse .refusedState s
  countAnswer src a.code (putReply n (replyFrame src tag a) a.state)

/-- The intake of a request: discarded while a NODE-RESET waits, dropped with event 7 where a REPLY cannot be queued, taken
otherwise (R13, R189, R190). -/
def intake (src : Addr) (tag : Byte) (gate : State → Bool) (act : State → Answer) (s : State) : State :=
  if s.lnk.resetPending.isSome then s
  else if canQueueU s then answer src tag gate act s
  else count .requestDropped src s

/-- A request frame of an assigned class heard: its gate, and the action of the owning block (R186, R190). -/
def request (k : RequestKind) (src : Addr) (tag : Byte) (payload : List Byte) (act : State → Answer) (s : State) :
    Host.Outcome State Fault Refusal :=
  .next (received src payload (intake src tag (k.gate payload) act) s)

/-! ### The commands -/

/-- REQUEST_DROPPED: a request whose REPLY cannot be queued; with room for a REPLY nothing beyond the general part is
known of it (R189; log 18). -/
def execRequestDropped (src : Addr) (s : State) : Host.Outcome State Fault Refusal :=
  .next (received src [] (fun s =>
    if s.lnk.resetPending.isSome || canQueueU s then s else count .requestDropped src s) s)

/-- UNASSIGNED_REQUEST: a request of class 49..55 is answered UNKNOWN in every node state (R3, R190, step 1). -/
def execUnassignedRequest (cls : Nat) (src : Addr) (tag : Byte) (payload : List Byte) (s : State) :
    Host.Outcome State Fault Refusal :=
  if 49 ≤ cls ∧ cls ≤ 55 then .next (received src payload (intake src tag gateAny (refuse .unknown)) s)
  else .fault .illFormed

end Sys2Proof.Machine
end

