-- ==== Sys2Proof/Machine/ConfigRequests.lean ====
section
/-! DEFINITION. The requests of node control (chapter 1): CONFIG-SET, CONFIG-COMMIT, NODE-RESUME, NODE-RESET, IDENT-READ. -/

namespace Sys2Proof.Machine

/-! ### CONFIG-SET (R9) -/

/-- The lower bound of an item: that of items 29 and 31 follows the working items 28 and 30 (R9). -/
def lowerBound (working : Vector Int 44) (n : Nat) : Int :=
  if n = 29 then max 20 (itemOf working 28 + 5)
  else if n = 31 then itemOf working 30
  else (itemTable.getD (n - 1) ⟨0, 0, 0⟩).lo

/-- A value as stored into a working item (R9). -/
def clampItem (working : Vector Int 44) (n : Nat) (v : Int) : Int :=
  clampTo (lowerBound working n) (itemTable.getD (n - 1) ⟨0, 0, 0⟩).hi v

/-- CONFIG-SET of an item in 1..44 (R9). -/
def setItem (n : Nat) (v : Int) (s : State) : Answer :=
  let w := clampItem s.cfg.working n v
  { state := s.setCfg { s.cfg with working := putItem s.cfg.working n w }, code := doneOr (w != v),
    content := .item n w }

/-- The action of CONFIG-SET (R9). -/
def actConfigSet (payload : List Byte) (s : State) : Answer :=
  match payload with
  | [n, hi, lo] => if 1 ≤ n.toNat ∧ n.toNat ≤ 44 then setItem n.toNat (s16 hi lo) s else refuse .unknown s
  | _ => refuse .refusedFormat s

/-! ### CONFIG-COMMIT (R10) -/

/-- The five checks of a commit, in their order: the item reported at the first that fails (R10). -/
def commitFailure (c : Cfg) : Option Nat :=
  let w := itemOf c.working
  if w 6 ≤ w 5 then some 6
  else if w 29 < w 28 + 5 then some 29
  else if w 31 < w 30 then some 31
  else if w 1 = 0 then some 1
  else if c.straps.ext && decide (w 4 ≤ 0) then some 4
  else none

/-- CFG after a commit: items and straps kept, check value, valid flag, run settings, geometry (R8, R10). -/
def Cfg.commit (c : Cfg) : Cfg :=
  let w := c.working
  ({ c with
      committed := w, keptStraps := c.straps, check := checkValue w c.straps, valid := true, heatMode := .off
      setpoints := #v[itemOf w 19, itemOf w 20, itemOf w 21, itemOf w 22], feedSetpoint := itemOf w 34 } : Cfg).measured

/-- A commit whose checks hold: the configuration, the active gain set, RUN entry, MSI's close of R147, and HALT at once if
the HALT input is asserted (R5, R10, R73, R147). The DEMAND of the node state is queued before the close (DESIGN CHOICE,
log 46), and the close comes before HALT entry, both of which are "at once" (DESIGN CHOICE, log 48). -/
def commit (s : State) : State :=
  let c := s.cfg.commit
  let s := setLvcWith (fun l => { l with gains := gainsOf c.committed }) (s.setCfg c)
  haltIfAsserted (handIndex s.trv.index (runEntry s))

/-- The action of CONFIG-COMMIT (R10). -/
def actConfigCommit (payload : List Byte) (s : State) : Answer :=
  match payload with
  | [] =>
    match commitFailure s.cfg with
    | some n => { state := s, code := .refusedConfig, content := .failing n }
    | none => done (.checkValue s.cfg.commit.check) (commit s)
  | _ => refuse .refusedFormat s

/-! ### NODE-RESUME, NODE-RESET, IDENT-READ -/

/-- The action of NODE-RESUME (R7). -/
def actNodeResume (payload : List Byte) (s : State) : Answer :=
  match payload with
  | [] => if s.haltInput then refuse .refusedState s else done .empty (runEntry s)
  | _ => refuse .refusedFormat s

/-- The action of NODE-RESET: it stands pending from this moment (R13). -/
def actNodeReset (payload : List Byte) (s : State) : Answer :=
  match payload with
  | [] => done .empty (s.setLnk { s.lnk with resetPending := some s.now })
  | _ => refuse .refusedFormat s

/-- The content of an IDENT-READ reply (R14). -/
def identNow (s : State) : Ident :=
  { part := partCode, revision := siliconRevision, straps := s.cfg.straps, node := s.cfg.node, valid := s.cfg.valid,
    check := s.cfg.check, halt := s.haltInput, heatMode := s.cfg.heatMode, width := s.cfg.width, centre := s.cfg.centre }

/-- The action of IDENT-READ (R14). -/
def actIdentRead (payload : List Byte) (s : State) : Answer :=
  match payload with
  | [] => done (.ident (identNow s)) s
  | _ => refuse .refusedFormat s

/-! ### The commands -/

/-- CONFIG_SET (R9). -/
def execConfigSet (src : Addr) (tag : Byte) (payload : List Byte) (s : State) : Host.Outcome State Fault Refusal :=
  request .configSet src tag payload (actConfigSet payload) s

/-- CONFIG_COMMIT (R10). -/
def execConfigCommit (src : Addr) (tag : Byte) (payload : List Byte) (s : State) : Host.Outcome State Fault Refusal :=
  request .configCommit src tag payload (actConfigCommit payload) s

/-- NODE_RESUME (R7). -/
def execNodeResume (src : Addr) (tag : Byte) (payload : List Byte) (s : State) : Host.Outcome State Fault Refusal :=
  request .nodeResume src tag payload (actNodeResume payload) s

/-- NODE_RESET (R13). -/
def execNodeReset (src : Addr) (tag : Byte) (payload : List Byte) (s : State) : Host.Outcome State Fault Refusal :=
  request .nodeReset src tag payload (actNodeReset payload) s

/-- IDENT_READ (R14). -/
def execIdentRead (src : Addr) (tag : Byte) (payload : List Byte) (s : State) : Host.Outcome State Fault Refusal :=
  request .identRead src tag payload (actIdentRead payload) s

end Sys2Proof.Machine
end

