-- ==== Sys2Proof/Machine/FeedRequests.lean ====
section
/-! DEFINITION. FEED (7.2): status read, MODE, LEVEL, DUTIES. -/

namespace Sys2Proof.Machine

/-- What every reply to a taken FEED carries (R117). -/
def feedReport (s : State) : Content :=
  .feed { mode := s.fdc.mode, phase := s.fdc.phase, setpoint := s.cfg.feedSetpoint, conveyor := s.fdc.conveyor,
          auger := s.fdc.auger, level := s.fdc.judged, degraded := s.fdc.degraded, starved := s.fdc.starved }

/-- The mode a FEED MODE byte names (R117). -/
def feedModeOfByte (b : Byte) : Option FeedMode :=
  if b = 0 then some .off
  else if b = 1 then some .manual
  else if b = 2 then some .auto
  else none

/-- FEED MODE (R116, R117). -/
def feedMode (m : FeedMode) (s : State) : Answer :=
  let t := changeFeedMode m s
  done (feedReport t) t

/-- FEED LEVEL (R118). -/
def feedLevel (v : Int) (s : State) : Answer :=
  let w := clampTo 100 900 v
  let t := s.setCfg { s.cfg with feedSetpoint := w }
  { state := t, code := doneOr (w != v), content := feedReport t }

/-- FEED DUTIES, taken in MANUAL (R119). -/
def feedDuties (c a : Int) (s : State) : Answer :=
  if s.fdc.mode ≠ .manual then refuse .refusedState s
  else
    let x := clampTo 0 1000 c
    let y := clampTo 0 1000 a
    let t := setFdcWith (fun f => { f with manualConveyor := x, manualAuger := y, conveyor := x, auger := y }) s
    { state := t, code := doneOr (x != c || y != a), content := feedReport t }

/-- The action of FEED on a node with the FEED strap (R117). -/
def actFeed (payload : List Byte) (s : State) : Answer :=
  match payload with
  | [] => done (feedReport s) s
  | op :: values =>
    if op = 1 then match values with
      | [m] => match feedModeOfByte m with
        | some x => feedMode x s
        | none => refuse .unknown s
      | _ => refuse .refusedFormat s
    else if op = 2 then match values with
      | [hi, lo] => feedLevel (s16 hi lo) s
      | _ => refuse .refusedFormat s
    else if op = 3 then match values with
      | [c1, c0, a1, a0] => feedDuties (s16 c1 c0) (s16 a1 a0) s
      | _ => refuse .refusedFormat s
    else refuse .unknown s

/-- A FEED request on a node without the FEED strap is REFUSED-STATE before its payload is examined (R113). -/
def ifFeedFitted (act : State → Answer) (s : State) : Answer := if feedFitted s then act s else refuse .refusedState s

/-! ### The commands -/

/-- FEED_STATUS_READ: FEED without payload (R117). -/
def execFeedStatusRead (src : Addr) (tag : Byte) (payload : List Byte) (s : State) : Host.Outcome State Fault Refusal :=
  request .feed src tag payload (ifFeedFitted (actFeed payload)) s

/-- FEED_MODE: FEED with sub-operation 1 (R117). -/
def execFeedMode (src : Addr) (tag : Byte) (payload : List Byte) (s : State) : Host.Outcome State Fault Refusal :=
  request .feed src tag payload (ifFeedFitted (actFeed payload)) s

/-- FEED_LEVEL: FEED with sub-operation 2 (R118). -/
def execFeedLevel (src : Addr) (tag : Byte) (payload : List Byte) (s : State) : Host.Outcome State Fault Refusal :=
  request .feed src tag payload (ifFeedFitted (actFeed payload)) s

/-- FEED_DUTIES: FEED with sub-operation 3 (R119). -/
def execFeedDuties (src : Addr) (tag : Byte) (payload : List Byte) (s : State) : Host.Outcome State Fault Refusal :=
  request .feed src tag payload (ifFeedFitted (actFeed payload)) s

end Sys2Proof.Machine
end

