-- ==== Sys2Proof/Machine/HeatRequests.lean ====
section
/-! DEFINITION. HEAT-SET (3.8, R47). -/

namespace Sys2Proof.Machine

/-- A zone setpoint of HEAT-SET: 0 keeps, any other value is clamped to 80..200 (R47, step 1). -/
def newSetpoint (old v : Int) : Int := if v = 0 then old else clampTo 80 200 v

/-- A setpoint of HEAT-SET is moved by clamping (R47). -/
def setpointMoved (v : Int) : Bool := v != 0 && clampTo 80 200 v != v

/-- Step 1: the setpoints (R47). -/
def setSetpoints (v : Vector Int 4) (s : State) : State :=
  s.setCfg { s.cfg with setpoints := s.cfg.setpoints.zipWith newSetpoint v }

/-- Step 2, OFF: the timer stopped, every element off, zones OFF unless in FAULT, a claim withdrawn, the ready flag clear,
one change of own draw reported (R47). The changes of heat mode, ready flag, want and draw queue one DEMAND between them
(DESIGN CHOICE, log 53). -/
def heatOff (s : State) : State :=
  let s := clearReady (stopStandby (s.setCfg { s.cfg with heatMode := .off }))
  let s := withdrawClaim (mapZones Zone.halted s)
  if drawOf s = s.gsu.ownDraw then reportChanges s else drawChanged s

/-- Step 2, ON: standby ended, the timer restarted if travel is STOPPED or UNKNOWN (R44, R47). -/
def heatOn (s : State) : State :=
  setHeatMode .on (if s.trv.state.waits then startStandby s else stopStandby s)

/-- Step 2, STANDBY-NOW: STANDBY at once, the timer stopped (R44, R47). -/
def heatStandby (s : State) : State := setHeatMode .standby (stopStandby s)

/-- A zone with its current latch cleared; a reason CURRENT becomes SENSOR (R36). -/
def Zone.unlatched (z : Zone) : Zone :=
  { z with latch := false, reason := if z.reason = .current then .sensor else z.reason }

/-- Step 2 by the mode byte: 0 keep, 1 OFF, 2 ON, 3 STANDBY-NOW; none for any other (R47). -/
def heatModeStep (mode : Byte) : Option (State → State) :=
  if mode = 0 then some id
  else if mode = 1 then some heatOff
  else if mode = 2 then some heatOn
  else if mode = 3 then some heatStandby
  else none

/-- One zone's share of the reply (R47). -/
def zoneReport (s : State) (z : ZoneId) : ZoneReport :=
  { state := (s.zone z).state, reason := (s.zone z).reason, setpoint := s.cfg.setpoints[z], reading := (s.zone z).reading }

/-- The content of a HEAT-SET reply (R47). -/
def heatReport (s : State) : Content :=
  .zones s.cfg.heatMode s.zht.ready #v[zoneReport s 0, zoneReport s 1, zoneReport s 2, zoneReport s 3]

/-- A taken HEAT-SET: setpoints, mode, latches (R47). The reply's zone states, fault reasons and setpoints are those
after the three steps, so a latch that the request clears shows as SENSOR (DESIGN CHOICE, log 52). -/
def heatSet (step : State → State) (v : Vector Int 4) (s : State) : Answer :=
  let t := mapZones Zone.unlatched (step (setSetpoints v s))
  { state := t, code := doneOr (v.toList.any setpointMoved), content := heatReport t }

/-- The action of HEAT-SET (R47). -/
def actHeatSet (payload : List Byte) (s : State) : Answer :=
  match payload with
  | [mode, a1, a0, b1, b0, c1, c0, d1, d0] =>
    match heatModeStep mode with
    | some step => heatSet step #v[s16 a1 a0, s16 b1 b0, s16 c1 c0, s16 d1 d0] s
    | none => refuse .unknown s
  | _ => refuse .refusedFormat s

/-! ### The commands -/

/-- HEAT_SET_KEEP: HEAT-SET with mode byte 0 (R47). -/
def execHeatSetKeep (src : Addr) (tag : Byte) (payload : List Byte) (s : State) : Host.Outcome State Fault Refusal :=
  request .heatSet src tag payload (actHeatSet payload) s

/-- HEAT_SET_OFF: HEAT-SET with mode byte 1 (R47). -/
def execHeatSetOff (src : Addr) (tag : Byte) (payload : List Byte) (s : State) : Host.Outcome State Fault Refusal :=
  request .heatSet src tag payload (actHeatSet payload) s

/-- HEAT_SET_ON: HEAT-SET with mode byte 2 (R47). -/
def execHeatSetOn (src : Addr) (tag : Byte) (payload : List Byte) (s : State) : Host.Outcome State Fault Refusal :=
  request .heatSet src tag payload (actHeatSet payload) s

/-- HEAT_SET_STANDBY_NOW: HEAT-SET with mode byte 3 (R47). -/
def execHeatSetStandbyNow (src : Addr) (tag : Byte) (payload : List Byte) (s : State) :
    Host.Outcome State Fault Refusal :=
  request .heatSet src tag payload (actHeatSet payload) s

end Sys2Proof.Machine
end

