-- ==== Sys2Proof/Machine/JobRequests.lean ====
section
/-! DEFINITION. JOB (2.5): START and END. -/

namespace Sys2Proof.Machine

/-- JOB START: refused while travel is UNKNOWN (R31). -/
def jobStart (s : State) : Answer :=
  if s.trv.state = .unknown then refuse .refusedState s
  else
    let t := startJob s
    done (.job t.ring.job) t

/-- JOB END (R32). -/
def jobEnd (s : State) : Answer :=
  let t := endJob s
  done (.job t.ring.job) t

/-- The action of JOB: the length is judged before the sub-operation (R31). -/
def actJob (payload : List Byte) (s : State) : Answer :=
  match payload with
  | [op] => if op = 1 then jobStart s else if op = 2 then jobEnd s else refuse .unknown s
  | _ => refuse .refusedFormat s

/-! ### The commands -/

/-- JOB_START: JOB with sub-operation 1 (R31). -/
def execJobStart (src : Addr) (tag : Byte) (payload : List Byte) (s : State) : Host.Outcome State Fault Refusal :=
  request .job src tag payload (actJob payload) s

/-- JOB_END: JOB with sub-operation 2 (R32). -/
def execJobEnd (src : Addr) (tag : Byte) (payload : List Byte) (s : State) : Host.Outcome State Fault Refusal :=
  request .job src tag payload (actJob payload) s

end Sys2Proof.Machine
end

