-- ==== Sys2Proof/Machine/LevelRequests.lean ====
section
/-! DEFINITION. The levelling requests: LEVEL-MODE (6.2), LEVEL-SET (5.7, 5.8), LEVEL-ZERO (5.3), LEVEL-GAINS (5.9) and
LEVEL-TRIAL (6.5, 6.6). -/

namespace Sys2Proof.Machine

/-- A levelling request on a node without the LEV strap is REFUSED-STATE before its payload is examined (R72, R92).
That refusal carries no content, LEVEL-ZERO's included: R77's own refusal alone carries the number of counted heads (DESIGN
CHOICE, log 51). -/
def ifLevFitted (act : State → Answer) (s : State) : Answer := if levFitted s then act s else refuse .refusedState s

/-! ### LEVEL-MODE -/

/-- The mode a byte names; HOLD cannot be named (R94). -/
def modeOfByte (b : Byte) : Option LevelMode :=
  if b = 0 then some .off
  else if b = 1 then some .manual
  else if b = 2 then some .grade
  else if b = 3 then some .slope
  else none

/-- The content of a LEVEL-MODE reply (R94). -/
def levelModeReport (s : State) : Content :=
  .levelMode (levelModeCode s.lvc.mode) s.lvc.reference.isSome (partnerAddress s) (partnerMode s)

/-- A LEVEL-MODE taken: naming the mode held it changes nothing; otherwise a trial ends with ENDED, the mode changes, and
SLOPE sets the partner watch (R93 to R97, R107). -/
def takeMode (m : LevelMode) (s : State) : State :=
  if s.lvc.mode = m then s
  else
    let s := changeMode m (endTrial .ended s)
    if m = .slope then setWatch s else s

/-- LEVEL-MODE by the mode named (R94 to R96). Naming the mode held is DONE by R94 before the conditions of R95 and R96 are
looked at, so in SLOPE without a partner in GRADE too (DESIGN CHOICE, log 57). -/
def levelMode (m : LevelMode) (s : State) : Answer :=
  if s.lvc.mode = m then done (levelModeReport s) s
  else if m = .grade ∧ s.lvc.reference.isNone then refuse .refusedState s
  else if m = .slope ∧ !partnerInGrade s then
    { state := s, code := .refusedPartner, content := .partner (partnerAddress s) (partnerMode s) }
  else done (levelModeReport (takeMode m s)) (takeMode m s)

/-- The action of LEVEL-MODE (R94). -/
def actLevelMode (payload : List Byte) (s : State) : Answer :=
  match payload with
  | [b] => match modeOfByte b with
    | some m => levelMode m s
    | none => refuse .unknown s
  | _ => refuse .refusedFormat s

/-! ### LEVEL-SET -/

/-- LEVEL-SET OFFSET (R86). -/
def setOffset (v : Int) (s : State) : Answer :=
  let w := clampTo (-500) 500 v
  { state := setLvcWith (fun l => { l with offset := w }) s, code := doneOr (w != v), content := .levelSet 1 w }

/-- LEVEL-SET SLOPE (R87). -/
def setSlope (v : Int) (s : State) : Answer :=
  let w := clampTo (-1000) 1000 v
  { state := setLvcWith (fun l => { l with slope := w }) s, code := doneOr (w != v), content := .levelSet 2 w }

/-- A jog of a signed duty and a duration; a duty of 0 ends a running jog with the output at 0 (R88). -/
def jogOf (duty : Int) (duration : Nat) (s : State) : State :=
  if duty = 0 then
    if s.lvc.jog.isSome then setLvcWith (fun l => { l with jog := none, output := 0 }) s else s
  else
    setLvcWith (fun l => { l with
      jog := some { duty := duty, endTime := s.now + BitVec.ofNat 32 duration }, output := duty }) s

/-- LEVEL-SET JOG (R88): taken in MANUAL; direction 1 UP, 2 DOWN; duty and duration clamped. The reply carries the
sub-operation 3, the direction and the values as stored (R86). Outside MANUAL a direction byte of another value is
REFUSED-STATE too: the mode is judged before the direction, an order R88 does not give (DESIGN CHOICE, log 12). -/
def setJog (direction : Byte) (duty : Int) (duration : Nat) (s : State) : Answer :=
  if s.lvc.mode ≠ .manual then refuse .refusedState s
  else if direction ≠ 1 ∧ direction ≠ 2 then refuse .refusedFormat s
  else
    let d := clampTo 0 s.lvc.gains.uMax duty
    let t := max 50 (min 2000 duration)
    { state := jogOf (if direction = 1 then -d else d) t s, code := doneOr (d != duty || t != duration),
      content := .jog 3 direction.toNat d t }

/-- The action of LEVEL-SET (R86). -/
def actLevelSet (payload : List Byte) (s : State) : Answer :=
  match payload with
  | [] => refuse .refusedFormat s
  | op :: values =>
    if op = 1 then match values with
      | [hi, lo] => setOffset (s16 hi lo) s
      | _ => refuse .refusedFormat s
    else if op = 2 then match values with
      | [hi, lo] => setSlope (s16 hi lo) s
      | _ => refuse .refusedFormat s
    else if op = 3 then match values with
      | [dir, d1, d0, t1, t0] => setJog dir (s16 d1 d0) (u16 t1 t0) s
      | _ => refuse .refusedFormat s
    else refuse .unknown s

/-! ### LEVEL-ZERO -/

/-- The action of LEVEL-ZERO (R77). -/
def actLevelZero (payload : List Byte) (s : State) : Answer :=
  match payload with
  | [] =>
    let n := (countedHeads s).length
    match average s with
    | some a => done (.zeroed a n s.lvc.offset) (setLvcWith (fun l => { l with reference := some a }) s)
    | none => { state := s, code := .refusedState, content := .heads n }
  | _ => refuse .refusedFormat s

/-! ### LEVEL-GAINS -/

/-- A gain set clamped in the two steps of R90. -/
def Gains.clamped (g : Gains) : Gains :=
  let d := clampTo 5 50 g.d
  let uMin := clampTo 0 500 g.uMin
  { d := d, p := max (d + 5) (clampTo 20 300 g.p), uMin := uMin, uMax := max uMin (clampTo 0 1000 g.uMax),
    slew := clampTo 10 1000 g.slew }

/-- The outputs reduced at once under a new u_max: the driven output of the active set, a jog, or the guard's (R91). -/
def limitOutputs (uMax : Int) (l : Lvc) : Lvc :=
  match l.trial with
  | some t =>
    { l with trial := some { t with
        guardDuty := limitTo uMax t.guardDuty, guardSlew := limitTo uMax t.guardSlew } }
  | none =>
    if l.mode.corrects then { l with output := limitTo uMax l.output, slew := limitTo uMax l.slew }
    else match l.jog with
      | some j => { l with jog := some { j with duty := limitTo uMax j.duty }, output := limitTo uMax j.duty }
      | none => l

/-- A gain set becomes the active set, and CFG stores it with the new check value (R8, R90). -/
def adoptGains (g : Gains) (s : State) : State := storeGains g (setLvcWith (fun l => { l with gains := g }) s)

/-- LEVEL-GAINS (R90, R91). -/
def levelGains (g : Gains) (s : State) : Answer :=
  let c := g.clamped
  let t := setLvcWith (limitOutputs c.uMax) (adoptGains c s)
  { state := t, code := doneOr (c != g), content := .gains c t.cfg.check }

/-- The action of LEVEL-GAINS (R90). -/
def actLevelGains (payload : List Byte) (s : State) : Answer :=
  match payload with
  | [a1, a0, b1, b0, c1, c0, d1, d0, e1, e0] =>
    levelGains { d := s16 a1 a0, p := s16 b1 b0, uMin := s16 c1 c0, uMax := s16 d1 d0, slew := s16 e1 e0 } s
  | _ => refuse .refusedFormat s

/-! ### LEVEL-TRIAL -/

/-- The content of the capture read (R102). Without a running trial, where R102 gives no strike count and no cycles run, both
read 0 (DESIGN CHOICE, log 50). -/
def trialReport (s : State) : Content :=
  match s.lvc.trial with
  | some t => .trialRead s.lvc.capture true t.strikes t.cycles
  | none => .trialRead s.lvc.capture false 0 0

/-- The trial set up by START, in the steps of R103; the last duties start at 0 (log 40). -/
def startTrial (g : Gains) (w : Int) (k : Nat) (s : State) : State :=
  setLvcWith (fun l => { l with
    trial := some { gains := g, w := w, k := k, strikes := 0, cycles := 0, guardSlew := l.slew, trialDuty := 0,
                    guardDuty := 0 }
    output := limitTo g.uMax l.output, slew := limitTo g.uMax l.slew }) s

/-- LEVEL-TRIAL START (R103). -/
def trialStart (g : Gains) (w : Int) (k : Nat) (s : State) : Answer :=
  if !s.lvc.mode.corrects then refuse .refusedState s
  else if s.lvc.trial.isSome then refuse .refusedBusy s
  else
    let c := g.clamped
    let w' := clampTo 50 1000 w
    let k' := max 1 (min 20 k)
    { state := startTrial c w' k' s, code := doneOr (c != g || w' != w || k' != k), content := .trialSet c w' k' }

/-- LEVEL-TRIAL PROMOTE (R108). -/
def trialPromote (s : State) : Answer :=
  match s.lvc.trial with
  | some t =>
    let x := adoptGains t.gains (endTrial .promoted s)
    done (.gains t.gains x.cfg.check) x
  | none => refuse .refusedState s

/-- LEVEL-TRIAL END (R106, R107). -/
def trialEnd (s : State) : Answer :=
  match s.lvc.trial with
  | some t =>
    let x := revert t.guardDuty (endTrial .ended s)
    done (.trialEnd x.lvc.capture) x
  | none => refuse .refusedState s

/-- The action of LEVEL-TRIAL (R102). -/
def actLevelTrial (payload : List Byte) (s : State) : Answer :=
  match payload with
  | [] => done (trialReport s) s
  | op :: values =>
    if op = 1 then match values with
      | [a1, a0, b1, b0, c1, c0, d1, d0, e1, e0, w1, w0, k] =>
        trialStart { d := s16 a1 a0, p := s16 b1 b0, uMin := s16 c1 c0, uMax := s16 d1 d0, slew := s16 e1 e0 }
          (s16 w1 w0) k.toNat s
      | _ => refuse .refusedFormat s
    else if op = 2 then match values with
      | [] => trialPromote s
      | _ => refuse .refusedFormat s
    else if op = 3 then match values with
      | [] => trialEnd s
      | _ => refuse .refusedFormat s
    else refuse .unknown s

/-! ### The commands -/

/-- LEVEL_MODE_OFF: LEVEL-MODE with mode byte 0 (R94, R95). -/
def execLevelModeOff (src : Addr) (tag : Byte) (payload : List Byte) (s : State) : Host.Outcome State Fault Refusal :=
  request .levelMode src tag payload (ifLevFitted (actLevelMode payload)) s

/-- LEVEL_MODE_MANUAL: LEVEL-MODE with mode byte 1 (R94, R95). -/
def execLevelModeManual (src : Addr) (tag : Byte) (payload : List Byte) (s : State) :
    Host.Outcome State Fault Refusal :=
  request .levelMode src tag payload (ifLevFitted (actLevelMode payload)) s

/-- LEVEL_MODE_GRADE: LEVEL-MODE with mode byte 2 (R94, R95). -/
def execLevelModeGrade (src : Addr) (tag : Byte) (payload : List Byte) (s : State) : Host.Outcome State Fault Refusal :=
  request .levelMode src tag payload (ifLevFitted (actLevelMode payload)) s

/-- LEVEL_MODE_SLOPE: LEVEL-MODE with mode byte 3 (R94, R96). -/
def execLevelModeSlope (src : Addr) (tag : Byte) (payload : List Byte) (s : State) : Host.Outcome State Fault Refusal :=
  request .levelMode src tag payload (ifLevFitted (actLevelMode payload)) s

/-- LEVEL_SET_OFFSET: LEVEL-SET with sub-operation 1 (R86). -/
def execLevelSetOffset (src : Addr) (tag : Byte) (payload : List Byte) (s : State) : Host.Outcome State Fault Refusal :=
  request .levelSet src tag payload (ifLevFitted (actLevelSet payload)) s

/-- LEVEL_SET_SLOPE: LEVEL-SET with sub-operation 2 (R86, R87). -/
def execLevelSetSlope (src : Addr) (tag : Byte) (payload : List Byte) (s : State) : Host.Outcome State Fault Refusal :=
  request .levelSet src tag payload (ifLevFitted (actLevelSet payload)) s

/-- LEVEL_SET_JOG: LEVEL-SET with sub-operation 3 (R86, R88). -/
def execLevelSetJog (src : Addr) (tag : Byte) (payload : List Byte) (s : State) : Host.Outcome State Fault Refusal :=
  request .levelSet src tag payload (ifLevFitted (actLevelSet payload)) s

/-- LEVEL_ZERO (R77). -/
def execLevelZero (src : Addr) (tag : Byte) (payload : List Byte) (s : State) : Host.Outcome State Fault Refusal :=
  request .levelZero src tag payload (ifLevFitted (actLevelZero payload)) s

/-- LEVEL_GAINS (R90, R91). -/
def execLevelGains (src : Addr) (tag : Byte) (payload : List Byte) (s : State) : Host.Outcome State Fault Refusal :=
  request .levelGains src tag payload (ifLevFitted (actLevelGains payload)) s

/-- LEVEL_TRIAL_CAPTURE_READ: LEVEL-TRIAL without payload (R102). -/
def execLevelTrialCaptureRead (src : Addr) (tag : Byte) (payload : List Byte) (s : State) :
    Host.Outcome State Fault Refusal :=
  request .levelTrial src tag payload (ifLevFitted (actLevelTrial payload)) s

/-- LEVEL_TRIAL_START: LEVEL-TRIAL with sub-operation 1 (R102, R103). -/
def execLevelTrialStart (src : Addr) (tag : Byte) (payload : List Byte) (s : State) :
    Host.Outcome State Fault Refusal :=
  request .levelTrial src tag payload (ifLevFitted (actLevelTrial payload)) s

/-- LEVEL_TRIAL_PROMOTE: LEVEL-TRIAL with sub-operation 2 (R102, R108). -/
def execLevelTrialPromote (src : Addr) (tag : Byte) (payload : List Byte) (s : State) :
    Host.Outcome State Fault Refusal :=
  request .levelTrial src tag payload (ifLevFitted (actLevelTrial payload)) s

/-- LEVEL_TRIAL_END: LEVEL-TRIAL with sub-operation 3 (R102, R107). -/
def execLevelTrialEnd (src : Addr) (tag : Byte) (payload : List Byte) (s : State) : Host.Outcome State Fault Refusal :=
  request .levelTrial src tag payload (ifLevFitted (actLevelTrial payload)) s

end Sys2Proof.Machine
end

