-- ==== Sys2Proof/Machine/Link.lean ====
section
/-! DEFINITION. The link controller's own commands (chapter 11): the idle line, lost arbitration, frames carried and
discarded, LISTEN-ONLY, and the frames that are discarded on arrival. -/

namespace Sys2Proof.Machine

/-! ### The frame on the line -/

/-- A command about the frame being sent, taken while none is, takes the line to have fallen idle first. DESIGN CHOICE
(log 7). -/
def ensureSending (s : State) : State :=
  if s.lnk.sending.isSome then s else beginFrame (s.setLnk { s.lnk with lineIdle := true })

/-- The slot and the frame being sent. -/
def sendingFrame (s : State) : Option (Slot × Frame) :=
  match s.lnk.sending with
  | some x => (s.lnk.slot x).map fun f => (x, f)
  | none => none

/-- Nothing is being sent any more, and the line is not idle until LINE_IDLE (R181). -/
def endSending (s : State) : State := s.setLnk { s.lnk with sending := none, lineIdle := false }

/-- A slot that has emptied is filled again: U and P from their lists, B by the bulk arbiter (R162, R187). -/
def refill (x : Slot) (s : State) : State :=
  match x with
  | .u => fillU s
  | .p => fillP s
  | .b => fillB s

/-- The slot of a carried frame empties and is filled again (R188, step 4). -/
def emptyAndRefill (x : Slot) (s : State) : State := refill x (s.setLnk (s.lnk.emptySlot x))

/-! ### The own frame -/

/-- The GSU hears its own CLAIM: a QUEUED claim enters its window of 60 ms (R59). -/
def openWindow (s : State) : State :=
  match s.gsu.claim with
  | some c =>
    if c.window.isNone then s.setGsu { s.gsu with claim := some { c with window := some (s.now + 60) } } else s
  | none => s

/-- PTB writes an own frame into the own entry and hands it to its owner (R18, R59, R65). -/
def ownFrame (b : Body) (s : State) : State :=
  let s := hear s.self s
  match b with
  | .claim c => openWindow (writeClaim s.self c s)
  | .demand d => let s := writeDemand s.self d s; s.setGsu { s.gsu with lastCarried := some s.now }
  | .levelStatus l => writeLevel s.self l s
  | .feedStatus f _ => writeFeed s.self f s
  | .alert _ | .reply _ _ | .coldSpot _ | .header0 .. | .header1 .. | .header2 .. | .record _ | .void .. | .close .. => s

/-- A frame of the node is carried, in the four steps of R188. The REPLY to a NODE-RESET starts the warm reset, which reads
the straps as the pins then stand (R12, R13). -/
def carried (x : Slot) (f : Frame) (s : State) : State :=
  let s := endSending s
  let s := count .frameSent f.dst (s.setLnk { s.lnk with tally := s.lnk.tally - 1 })
  let s := ownFrame f.body s
  if f.resets then resetAtNodeReset s else emptyAndRefill x s

/-! ### Errors and LISTEN-ONLY -/

/-- Every slot and both lists emptied (R185, step 1). -/
def Lnk.discarded (l : Lnk) : Lnk := { l with slotU := none, slotP := none, slotB := none, uList := [], pList := [] }

/-- LISTEN-ONLY is entered, in the four steps of R185. -/
def enterListenOnly (s : State) : State :=
  let s := s.setLnk { s.lnk.discarded with listenUntil := some (s.now + 2000) }
  raise .listenOnly (dropElements s)

/-- A transmit error: event 3, the tally raised by 8, the frame kept in its slot; at 128 LISTEN-ONLY (R183, R184). -/
def transmitError (f : Frame) (s : State) : State :=
  let s := count .transmitError f.dst (endSending s)
  let s := s.setLnk { s.lnk with tally := s.lnk.tally + 8 }
  if 128 ≤ s.lnk.tally then enterListenOnly s else s

/-- The link state becomes ACTIVE again (R71, R185). -/
def leaveListenOnly (s : State) : State :=
  let s := lower .listenOnly (s.setLnk { s.lnk with listenUntil := none, tally := 64 })
  fillB (queueDemand s)

/-! ### The commands -/

/-- LINE_IDLE: the line falls idle; LNK begins the frame of the chosen slot (R181, R187). -/
def execLineIdle (s : State) : Host.Outcome State Fault Refusal :=
  .next (unlessHeld (fun s => beginFrame (s.setLnk { s.lnk with lineIdle := true, sending := none })) s)

/-- ARBITRATION_LOST: the frame stays in its slot; event 2 names the winner (R181). -/
def execArbitrationLost (winner : Addr) (s : State) : Host.Outcome State Fault Refusal :=
  .next (unlessHeld (fun s =>
    let s := ensureSending s
    match sendingFrame s with
    | some _ => count .arbitrationLost winner (endSending s)
    | none => s) s)

/-- FRAME_CARRIED: the frame being sent is carried (R188). -/
def execFrameCarried (s : State) : Host.Outcome State Fault Refusal :=
  .next (unlessHeld (fun s =>
    let s := ensureSending s
    match sendingFrame s with
    | some (x, f) => carried x f s
    | none => s) s)

/-- TRANSMIT_ERROR: the frame being sent is discarded by an error (R183). -/
def execTransmitError (s : State) : Host.Outcome State Fault Refusal :=
  .next (unlessHeld (fun s =>
    let s := ensureSending s
    match sendingFrame s with
    | some (_, f) => transmitError f s
    | none => s) s)

/-- LISTEN_ONLY_TIMER_EXPIRY: 2000 ms after its start the state ends (R185). -/
def execListenOnlyTimerExpiry (s : State) : Host.Outcome State Fault Refusal :=
  .next (unlessHeld (fun s =>
    match s.lnk.listenUntil with
    | some t => leaveListenOnly (reach t s)
    | none => s) s)

/-- CHECK_FAILURE_HEARD: a frame being received is discarded by an error (R183). -/
def execCheckFailureHeard (s : State) : Host.Outcome State Fault Refusal :=
  .next (unlessHeld (fun s => checkFailure (lineBusy s)) s)

/-- SOURCE_15_FRAME: a frame from source 15 is discarded (R186). -/
def execSource15Frame (s : State) : Host.Outcome State Fault Refusal := .next (unlessHeld lineBusy s)

/-- OWN_ADDRESS_HEARD: a frame with the node's own address that it did not send (R193). -/
def execOwnAddressHeard (s : State) : Host.Outcome State Fault Refusal :=
  .next (unlessHeld (fun s => ownAddressFrame (lineBusy s)) s)

end Sys2Proof.Machine
end

