-- ==== Sys2Proof/Machine/ReadoutRequests.lean ====
section
/-! DEFINITION. READOUT (9.2 to 9.5): OPEN, STOP, STATUS. -/

namespace Sys2Proof.Machine

/-- A channel number byte: 0 to 3 (R153). -/
def channelOfByte (b : Byte) : Option (Fin 4) := if h : b.toNat < 4 then some ⟨b.toNat, h⟩ else none

/-- The start seq a start mode resolves to: SEQ, OLDEST, NEXT (R154). -/
def startSeq (r : Ring) (mode : Byte) (given : Seq) : Option Seq :=
  if mode = 0 then some given
  else if mode = 1 then some r.oldest
  else if mode = 2 then some r.nextSeq
  else none

/-- The channel as opened (R154). Of the options byte the lowest position is the cyclic flag and the next the close-status
flag (R153); positions 2 to 7, of which nothing is said, are ignored when set (DESIGN CHOICE, log 59). -/
def openedChannel (owner : Addr) (start : Seq) (count headers : Nat) (options : Byte) : Channel where
  state := if 0 < headers then .headers else .records
  owner := some owner
  next := start
  count := count
  remaining := count
  headerCount := headers
  headersLeft := headers
  cyclic := options.getLsbD 0
  closeFlag := options.getLsbD 1
  recordsSent := 0
  voidsSent := 0
  status := .none

/-- READOUT OPEN on a channel number and a resolved start (R154); the arbiter then fills an empty slot B (R162). -/
def openReadout (src : Addr) (n : Fin 4) (start : Seq) (count headers : Nat) (options : Byte) (s : State) : Answer :=
  if (s.channel n).state ≠ .idle then refuse .refusedBusy s
  else if 8388608 < s.ring.distance start then refuse .refusedRange s
  else
    let c := min 4095 count
    let h := min 3 headers
    { state := fillB (putJudged n (openedChannel src start c h options) s), code := doneOr (c != count || h != headers),
      content := .opened n start s.ring.oldest s.ring.nextSeq s.ring.held }

/-- The content of the replies that give a channel's context: its number, and the owner as 15 if there is none (R153, R163,
R166). -/
def channelReport (n : Fin 4) (s : State) : Content :=
  let c := s.channel n
  .channel {
    number := n, state := c.state, owner := c.owner.getD 15, next := c.next, count := c.count, remaining := c.remaining,
    headerCount := c.headerCount, headersLeft := c.headersLeft, cyclic := c.cyclic, closeFlag := c.closeFlag,
    recordsSent := c.recordsSent, voidsSent := c.voidsSent, status := c.status, oldest := s.ring.oldest,
    nextSeq := s.ring.nextSeq, held := s.ring.held }

/-- A channel stopped by its owner: CLOSING with STOPPED; one already CLOSING stands (R163). -/
def Channel.stopped (c : Channel) : Channel :=
  match c.state with
  | .headers | .records | .wait => { c with cyclic := false }.close .stopped
  | .idle | .closing => c

/-- READOUT STOP (R163); the context replied is that after the request (log 39). -/
def stopReadout (src : Addr) (n : Fin 4) (s : State) : Answer :=
  let c := s.channel n
  if c.state = .idle then done (channelReport n s) s
  else if c.owner ≠ some src then refuse .refusedOwner s
  else
    let t := fillB (setChannel n c.stopped s)
    done (channelReport n t) t

/-- The action of READOUT (R153): the sub-operation, the length, then the channel number and the start
mode, which are judged before the channel's state (DESIGN CHOICE where R153 and R154 give no order, log 12). -/
def actReadout (src : Addr) (payload : List Byte) (s : State) : Answer :=
  match payload with
  | [] => refuse .refusedFormat s
  | op :: values =>
    if op = 1 then match values with
      | [n, mode, s2, s1, s0, c1, c0, h, o] =>
        match channelOfByte n, startSeq s.ring mode (seq24 s2 s1 s0) with
        | some n, some start => openReadout src n start (u16 c1 c0) h.toNat o s
        | _, _ => refuse .unknown s
      | _ => refuse .refusedFormat s
    else if op = 2 then match values with
      | [n] => match channelOfByte n with
        | some n => stopReadout src n s
        | none => refuse .unknown s
      | _ => refuse .refusedFormat s
    else if op = 3 then match values with
      | [n] => match channelOfByte n with
        | some n => done (channelReport n s) s
        | none => refuse .unknown s
      | _ => refuse .refusedFormat s
    else refuse .unknown s

/-! ### The commands -/

/-- READOUT_OPEN: READOUT with sub-operation 1 (R154). -/
def execReadoutOpen (src : Addr) (tag : Byte) (payload : List Byte) (s : State) : Host.Outcome State Fault Refusal :=
  request .readout src tag payload (actReadout src payload) s

/-- READOUT_STOP: READOUT with sub-operation 2 (R163). -/
def execReadoutStop (src : Addr) (tag : Byte) (payload : List Byte) (s : State) : Host.Outcome State Fault Refusal :=
  request .readout src tag payload (actReadout src payload) s

/-- READOUT_STATUS: READOUT with sub-operation 3 (R166). -/
def execReadoutStatus (src : Addr) (tag : Byte) (payload : List Byte) (s : State) : Host.Outcome State Fault Refusal :=
  request .readout src tag payload (actReadout src payload) s

end Sys2Proof.Machine
end

