-- ==== Sys2Proof/Machine/MonitorRequests.lean ====
section
/-! DEFINITION. The monitoring requests: COUNTER (10.2), ALERT (10.4) and CHECK (9.6). -/

namespace Sys2Proof.Machine

/-! ### COUNTER -/

/-- A counter. -/
def State.counter (s : State) (n : Fin 4) : Counter := s.evc.counters[n]

/-- A counter replaced. -/
def setCounter (n : Fin 4) (c : Counter) (s : State) : State :=
  s.setEvc { s.evc with counters := s.evc.counters.set n c }

/-- COUNTER SELECT: the selection set, the value 0, the capture empty, the threshold kept (R173). -/
def counterSelect (n : Fin 4) (event : Nat) (s : State) : Answer :=
  let c := { s.counter n with selection := event, value := 0, capture := none }
  done (.counter n event c.threshold) (setCounter n c s)

/-- COUNTER THRESHOLD: the threshold set, value and capture kept; DONE without content (R174, R191). -/
def counterThreshold (n : Fin 4) (threshold : Nat) (s : State) : Answer :=
  done .empty (setCounter n { s.counter n with threshold := threshold } s)

/-- One counter in a COUNTER READ reply (R174). -/
def Counter.report (c : Counter) : CounterReport :=
  { selection := c.selection, filled := c.capture.isSome, value := c.value, threshold := c.threshold }

/-- A counter cleared: value 0, capture empty (R174). -/
def Counter.cleared (c : Counter) : Counter := { c with value := 0, capture := none }

/-- COUNTER READ: the report as things stand, then the clearing if asked (R174). -/
def counterRead (n : Fin 4) (clear : Bool) (s : State) : Answer :=
  done (.counters (s.evc.counters.map Counter.report) (s.counter n).capture)
    (if clear then s.setEvc { s.evc with counters := s.evc.counters.map Counter.cleared } else s)

/-- The action of COUNTER (R173): the sub-operation, the length, then counter number, event code and clear flag. -/
def actCounter (payload : List Byte) (s : State) : Answer :=
  match payload with
  | [] => refuse .refusedFormat s
  | op :: values =>
    if op = 1 then match values with
      | [n, e] => match channelOfByte n with
        | some n => if e.toNat ≤ 24 then counterSelect n e.toNat s else refuse .unknown s
        | none => refuse .unknown s
      | _ => refuse .refusedFormat s
    else if op = 2 then match values with
      | [n, f] => match channelOfByte n with
        | some n => if f.toNat ≤ 1 then counterRead n (f == 1) s else refuse .unknown s
        | none => refuse .unknown s
      | _ => refuse .refusedFormat s
    else if op = 3 then match values with
      | [n, t2, t1, t0] => match channelOfByte n with
        | some n => counterThreshold n (seq24 t2 t1 t0).toNat s
        | none => refuse .unknown s
      | _ => refuse .refusedFormat s
    else refuse .unknown s

/-! ### ALERT -/

/-- The reply to a taken ALERT: present set, mask and highest-priority number as they stand (R176). -/
def alertReport (s : State) : Content := .alerts s.alr.present s.alr.mask (highestAlert s.alr)

/-- An ALERT frame is queued for each source of a set that is present, lowest number first (R180). -/
def announce (set : Bits) (s : State) : State :=
  alertSources.foldl (fun s a =>
    if hasBit set (a.number - 1) && hasBit s.alr.present (a.number - 1) then queueAlert a s else s) s

/-- ALERT MASK-SET: the named sources enabled; a frame for each newly enabled one that is present (R177, R180). -/
def maskSet (set : Bits) (s : State) : Answer :=
  let new := set &&& namedSources &&& ~~~ s.alr.mask
  let t := s.setAlr { s.alr with mask := s.alr.mask ||| new }
  done (alertReport t) (announce new t)

/-- ALERT MASK-CLEAR: the named sources inhibited (R177). -/
def maskClear (set : Bits) (s : State) : Answer :=
  let t := s.setAlr { s.alr with mask := s.alr.mask &&& ~~~ set }
  done (alertReport t) t

/-- ALERT ACK: every named latched source becomes absent (R178). -/
def alertAck (set : Bits) (s : State) : Answer :=
  let t := s.setAlr { s.alr with present := s.alr.present &&& ~~~ (set &&& latchedSources) }
  done (alertReport t) t

/-- The action of ALERT (R176): the sub-operation, then the length. -/
def actAlert (payload : List Byte) (s : State) : Answer :=
  match payload with
  | [] => refuse .refusedFormat s
  | op :: values =>
    if op = 1 then match values with
      | [hi, lo] => maskSet (set16 hi lo) s
      | _ => refuse .refusedFormat s
    else if op = 2 then match values with
      | [hi, lo] => maskClear (set16 hi lo) s
      | _ => refuse .refusedFormat s
    else if op = 3 then match values with
      | [] => done (alertReport s) s
      | _ => refuse .refusedFormat s
    else if op = 4 then match values with
      | [hi, lo] => alertAck (set16 hi lo) s
      | _ => refuse .refusedFormat s
    else refuse .unknown s

/-! ### CHECK -/

/-- CHECK READ: the report as things stand; then capture, pending and overflow are cleared, and source 7 is absent (R168). -/
def checkRead (s : State) : Answer :=
  done (.check s.mck.capture s.mck.pending s.mck.overflow s.mck.armed)
    (judgeCheck (s.setMck { s.mck with capture := none, pending := false, overflow := false }))

/-- CHECK PARITY-TEST: the armed flag is set (R169). -/
def parityTest (s : State) : Answer := done .empty (s.setMck { s.mck with armed := true })

/-- The action of CHECK: the length is judged before the sub-operation (R168). -/
def actCheck (payload : List Byte) (s : State) : Answer :=
  match payload with
  | [op] => if op = 1 then checkRead s else if op = 2 then parityTest s else refuse .unknown s
  | _ => refuse .refusedFormat s

/-! ### The commands -/

/-- COUNTER_SELECT: COUNTER with sub-operation 1 (R173). -/
def execCounterSelect (src : Addr) (tag : Byte) (payload : List Byte) (s : State) : Host.Outcome State Fault Refusal :=
  request .counter src tag payload (actCounter payload) s

/-- COUNTER_READ: COUNTER with sub-operation 2 (R174). -/
def execCounterRead (src : Addr) (tag : Byte) (payload : List Byte) (s : State) : Host.Outcome State Fault Refusal :=
  request .counter src tag payload (actCounter payload) s

/-- COUNTER_THRESHOLD: COUNTER with sub-operation 3 (R174). -/
def execCounterThreshold (src : Addr) (tag : Byte) (payload : List Byte) (s : State) :
    Host.Outcome State Fault Refusal :=
  request .counter src tag payload (actCounter payload) s

/-- ALERT_MASK_SET: ALERT with sub-operation 1 (R177). -/
def execAlertMaskSet (src : Addr) (tag : Byte) (payload : List Byte) (s : State) : Host.Outcome State Fault Refusal :=
  request .alert src tag payload (actAlert payload) s

/-- ALERT_MASK_CLEAR: ALERT with sub-operation 2 (R177). -/
def execAlertMaskClear (src : Addr) (tag : Byte) (payload : List Byte) (s : State) : Host.Outcome State Fault Refusal :=
  request .alert src tag payload (actAlert payload) s

/-- ALERT_QUERY: ALERT with sub-operation 3 (R176). -/
def execAlertQuery (src : Addr) (tag : Byte) (payload : List Byte) (s : State) : Host.Outcome State Fault Refusal :=
  request .alert src tag payload (actAlert payload) s

/-- ALERT_ACK: ALERT with sub-operation 4 (R178). -/
def execAlertAck (src : Addr) (tag : Byte) (payload : List Byte) (s : State) : Host.Outcome State Fault Refusal :=
  request .alert src tag payload (actAlert payload) s

/-- CHECK_READ: CHECK with sub-operation 1 (R168). -/
def execCheckRead (src : Addr) (tag : Byte) (payload : List Byte) (s : State) : Host.Outcome State Fault Refusal :=
  request .check src tag payload (actCheck payload) s

/-- CHECK_PARITY_TEST: CHECK with sub-operation 2 (R169). -/
def execCheckParityTest (src : Addr) (tag : Byte) (payload : List Byte) (s : State) : Host.Outcome State Fault Refusal :=
  request .check src tag payload (actCheck payload) s

end Sys2Proof.Machine
end

