-- ==== Sys2Proof/Machine/Peers.lean ====
section
/-! DEFINITION. Frames of other stations that the peer table writes and hands on (R15 to R17, R186), and the ageing scan
(R20). -/

namespace Sys2Proof.Machine

/-! ### Payloads (R63, R57, R101, R127, R24); a frame of another length gives none -/

/-- A DEMAND of seven bytes (R63). -/
def parseDemand : List Byte → Option Demand
  | [d1, d0, want, need, ready, mode, node] =>
    some { draw := u16 d1 d0, want := want.toNat, need := need.toNat, ready := flag8 ready, mode := mode.toNat,
           node := node.toNat }
  | _ => none

/-- A CLAIM of three bytes (R57). -/
def parseClaim : List Byte → Option Claim
  | [zone, power, need] => some { zone := zone.toNat, power := power.toNat, need := need.toNat }
  | _ => none

/-- A LEVEL-STATUS of eight bytes (R101). -/
def parseLevelStatus : List Byte → Option LevelStatus
  | [side, mode, e1, e0, d1, d0, ref, trial] =>
    some { side := side.toNat, mode := mode.toNat, error := s16 e1 e0, duty := s16 d1 d0, refValid := flag8 ref,
           trial := flag8 trial }
  | _ => none

/-- A FEED-STATUS of eight bytes; the conveyor duty is not kept in the entry (R127, 2.1). -/
def parseFeedStatus : List Byte → Option FeedPart
  | [side, mode, starved, degraded, l1, l0, _, _] =>
    some { side := side.toNat, mode := mode.toNat, starved := flag8 starved, degraded := flag8 degraded,
           level := u16 l1 l0 }
  | _ => none

/-- A TRAVEL of nine bytes: left count, right count, sequence number (R24). -/
def parseTravel : List Byte → Option Travel
  | [l3, l2, l1, l0, r3, r2, r1, r0, seq] =>
    some { left := count32 l3 l2 l1 l0, right := count32 r3 r2 r1 r0, seq := seq }
  | _ => none

/-! ### Handing on -/

/-- A station's claim in the GSU's view replaced. -/
def setView (a : Addr) (c : Option (Claim × Time)) (s : State) : State :=
  s.setGsu { s.gsu with view := s.gsu.view.set a c }

/-- A DEMAND of another station (R16, R56, R66, R68). -/
def demandHeard (a : Addr) (d : Demand) (s : State) : State :=
  judgeOverload (evaluateShed (setView a none (writeDemand a d s)))

/-- A CLAIM of another station (R17, R56). -/
def claimHeard (a : Addr) (c : Claim) (s : State) : State := setView a (some (c, s.now)) (writeClaim a c s)

/-- A LEVEL-STATUS of another station: written, judged for a duplicate side, then checked by a node in SLOPE (R98). -/
def levelHeard (a : Addr) (l : LevelStatus) (s : State) : State :=
  levelStatusHeard a (duplicateLevelSide l.side (writeLevel a l s))

/-- A FEED-STATUS of another station (R17, R22). -/
def feedHeard (a : Addr) (f : FeedPart) (s : State) : State := duplicateFeedSide f.side (writeFeed a f s)

/-- A TRAVEL frame (R17, R24). -/
def travelHeard (a : Addr) (f : Travel) (s : State) : State := trackFrame a f (writeTravel a f s)

/-! ### The ageing scan -/

/-- A part made absent if its stored time is older than a bound. -/
def keepYoung {α : Type} (now : Time) (bound : Nat) : Option (α × Time) → Option (α × Time)
  | some (x, t) => if age now t ≤ bound then some (x, t) else none
  | none => none

/-- An entry whose last frame of any class is more than 5000 ms old (R20). -/
def Entry.quiet (e : Entry) (now : Time) : Bool :=
  match e.lastTime with
  | some t => e.heard && decide (5000 < age now t)
  | none => false

/-- An entry after the scan (R20). -/
def Entry.aged (e : Entry) (now : Time) : Entry :=
  { e with
    heating := keepYoung now 5000 e.heating
    claim := keepYoung now 60 e.claim
    level := keepYoung now 300 e.level
    feed := keepYoung now 300 e.feed
    travel := keepYoung now 500 e.travel
    silent := e.silent || e.quiet now }

/-- The scan makes a heating part absent. -/
def heatingLost (now : Time) (e : Entry) : Bool := e.heating.isSome && (keepYoung now 5000 e.heating).isNone

/-- The scan examines one entry: a peer's lost heating part latches source 8, a newly silent owner loses its channels; the
GSU's view drops a claim that has aged out (R20, R56, R164; logs 32, 33). The arbiter acts on the loss before the next
entry is examined (DESIGN CHOICE, log 54). -/
def scanEntry (a : Addr) (s : State) : State :=
  let e := s.entry a
  let s := setEntry a (e.aged s.now) s
  let s := setView a (keepYoung s.now 60 s.gsu.view[a]) s
  let s := if heatingLost s.now e && a != s.self then raise .peerLost s else s
  if !e.silent && e.quiet s.now then loseOwner a s else s

/-- The scan of entries 0..14 in address order; source 3 is judged after the last if a peer's heating part was made absent
(R20, R68; the order is a DESIGN CHOICE, log 54). -/
def scan (s : State) : State :=
  let lost := stations.any fun a => a != s.self && heatingLost s.now (s.entry a)
  let s := stations.foldl (fun s a => scanEntry a s) s
  if lost then judgeOverload s else s

/-! ### The commands -/

/-- PEER_AGEING_SCAN: the 100 ms timer expires and runs on (R20). -/
def execPeerAgeingScan (s : State) : Host.Outcome State Fault Refusal :=
  .next (unlessHeld (fun s =>
    let s := reach s.ptb.scanDue s
    scan (s.setPtb { s.ptb with scanDue := s.ptb.scanDue + 100 })) s)

/-- OTHER_FRAME_HEARD: a frame of which only the general part is written (R15, R186). -/
def execOtherFrameHeard (src : Addr) (s : State) : Host.Outcome State Fault Refusal := .next (received src [] id s)

/-- DEMAND_ARRIVAL (R16). -/
def execDemandArrival (src : Addr) (payload : List Byte) (s : State) : Host.Outcome State Fault Refusal :=
  .next (received src payload (fun s =>
    match parseDemand payload with
    | some d => demandHeard src d s
    | none => s) s)

/-- CLAIM_ARRIVAL (R17, R56). -/
def execClaimArrival (src : Addr) (payload : List Byte) (s : State) : Host.Outcome State Fault Refusal :=
  .next (received src payload (fun s =>
    match parseClaim payload with
    | some c => claimHeard src c s
    | none => s) s)

/-- LEVEL_STATUS_ARRIVAL (R17, R22, R98). -/
def execLevelStatusArrival (src : Addr) (payload : List Byte) (s : State) : Host.Outcome State Fault Refusal :=
  .next (received src payload (fun s =>
    match parseLevelStatus payload with
    | some l => levelHeard src l s
    | none => s) s)

/-- FEED_STATUS_ARRIVAL (R17, R22). -/
def execFeedStatusArrival (src : Addr) (payload : List Byte) (s : State) : Host.Outcome State Fault Refusal :=
  .next (received src payload (fun s =>
    match parseFeedStatus payload with
    | some f => feedHeard src f s
    | none => s) s)

/-- TRAVEL_FRAME (R17, R24). -/
def execTravelFrame (src : Addr) (payload : List Byte) (s : State) : Host.Outcome State Fault Refusal :=
  .next (received src payload (fun s =>
    match parseTravel payload with
    | some f => travelHeard src f s
    | none => s) s)

end Sys2Proof.Machine
end

