-- ==== Sys2Proof/Machine/Dispatch.lean ====
section
/-! DEFINITION. The dispatch: one arm per command, each a direct call of its meaning. -/

namespace Sys2Proof.Machine

/-- The effect of a command on everything but the queue. -/
def exec (i : Instr) (s : State) : Host.Outcome State Fault Refusal :=
  match i with
  | .powerUp pins => Sys2Proof.Machine.execPowerUp pins s
  | .resetLineAsserted => Sys2Proof.Machine.execResetLineAsserted s
  | .warmReset pins => Sys2Proof.Machine.execWarmReset pins s
  | .haltInputAsserted => Sys2Proof.Machine.execHaltInputAsserted s
  | .haltInputReleased => Sys2Proof.Machine.execHaltInputReleased s
  | .extensionSensorArrival reading => Sys2Proof.Machine.execExtensionSensorArrival reading s
  | .thermocoupleSample zone reading current => Sys2Proof.Machine.execThermocoupleSample zone reading current s
  | .sampleTimeout zone => Sys2Proof.Machine.execSampleTimeout zone s
  | .standbyTimerExpiry => Sys2Proof.Machine.execStandbyTimerExpiry s
  | .claimWindowExpiry => Sys2Proof.Machine.execClaimWindowExpiry s
  | .backOffEnd => Sys2Proof.Machine.execBackOffEnd s
  | .shedHoldOffExpiry => Sys2Proof.Machine.execShedHoldOffExpiry s
  | .demandPeriodExpiry => Sys2Proof.Machine.execDemandPeriodExpiry s
  | .ownDemandAgeLimit => Sys2Proof.Machine.execOwnDemandAgeLimit s
  | .peerAgeingScan => Sys2Proof.Machine.execPeerAgeingScan s
  | .travelTimerExpiry => Sys2Proof.Machine.execTravelTimerExpiry s
  | .lineIdle => Sys2Proof.Machine.execLineIdle s
  | .arbitrationLost winner => Sys2Proof.Machine.execArbitrationLost winner s
  | .frameCarried => Sys2Proof.Machine.execFrameCarried s
  | .transmitError => Sys2Proof.Machine.execTransmitError s
  | .listenOnlyTimerExpiry => Sys2Proof.Machine.execListenOnlyTimerExpiry s
  | .checkFailureHeard => Sys2Proof.Machine.execCheckFailureHeard s
  | .source15Frame => Sys2Proof.Machine.execSource15Frame s
  | .ownAddressHeard => Sys2Proof.Machine.execOwnAddressHeard s
  | .otherFrameHeard src => Sys2Proof.Machine.execOtherFrameHeard src s
  | .demandArrival src payload => Sys2Proof.Machine.execDemandArrival src payload s
  | .claimArrival src payload => Sys2Proof.Machine.execClaimArrival src payload s
  | .levelStatusArrival src payload => Sys2Proof.Machine.execLevelStatusArrival src payload s
  | .feedStatusArrival src payload => Sys2Proof.Machine.execFeedStatusArrival src payload s
  | .travelFrame src payload => Sys2Proof.Machine.execTravelFrame src payload s
  | .headReadingArrival head reading => Sys2Proof.Machine.execHeadReadingArrival head reading s
  | .inclinometerArrival reading => Sys2Proof.Machine.execInclinometerArrival reading s
  | .levellingCycle => Sys2Proof.Machine.execLevellingCycle s
  | .partnerWatchExpiry => Sys2Proof.Machine.execPartnerWatchExpiry s
  | .jogEnd => Sys2Proof.Machine.execJogEnd s
  | .levelStatusTimerExpiry => Sys2Proof.Machine.execLevelStatusTimerExpiry s
  | .levelSensorArrival reading => Sys2Proof.Machine.execLevelSensorArrival reading s
  | .feedEvaluation paddleClosed => Sys2Proof.Machine.execFeedEvaluation paddleClosed s
  | .runOnExpiry => Sys2Proof.Machine.execRunOnExpiry s
  | .feedStatusTimerExpiry => Sys2Proof.Machine.execFeedStatusTimerExpiry s
  | .sweepArrival readings => Sys2Proof.Machine.execSweepArrival readings s
  | .sweepTimeout => Sys2Proof.Machine.execSweepTimeout s
  | .nodeResetTimeout => Sys2Proof.Machine.execNodeResetTimeout s
  | .requestDropped src => Sys2Proof.Machine.execRequestDropped src s
  | .unassignedRequest cls src tag payload => Sys2Proof.Machine.execUnassignedRequest cls src tag payload s
  | .configSet src tag payload => Sys2Proof.Machine.execConfigSet src tag payload s
  | .configCommit src tag payload => Sys2Proof.Machine.execConfigCommit src tag payload s
  | .nodeResume src tag payload => Sys2Proof.Machine.execNodeResume src tag payload s
  | .nodeReset src tag payload => Sys2Proof.Machine.execNodeReset src tag payload s
  | .identRead src tag payload => Sys2Proof.Machine.execIdentRead src tag payload s
  | .heatSetKeep src tag payload => Sys2Proof.Machine.execHeatSetKeep src tag payload s
  | .heatSetOff src tag payload => Sys2Proof.Machine.execHeatSetOff src tag payload s
  | .heatSetOn src tag payload => Sys2Proof.Machine.execHeatSetOn src tag payload s
  | .heatSetStandbyNow src tag payload => Sys2Proof.Machine.execHeatSetStandbyNow src tag payload s
  | .levelModeOff src tag payload => Sys2Proof.Machine.execLevelModeOff src tag payload s
  | .levelModeManual src tag payload => Sys2Proof.Machine.execLevelModeManual src tag payload s
  | .levelModeGrade src tag payload => Sys2Proof.Machine.execLevelModeGrade src tag payload s
  | .levelModeSlope src tag payload => Sys2Proof.Machine.execLevelModeSlope src tag payload s
  | .levelSetOffset src tag payload => Sys2Proof.Machine.execLevelSetOffset src tag payload s
  | .levelSetSlope src tag payload => Sys2Proof.Machine.execLevelSetSlope src tag payload s
  | .levelSetJog src tag payload => Sys2Proof.Machine.execLevelSetJog src tag payload s
  | .levelZero src tag payload => Sys2Proof.Machine.execLevelZero src tag payload s
  | .levelGains src tag payload => Sys2Proof.Machine.execLevelGains src tag payload s
  | .levelTrialCaptureRead src tag payload => Sys2Proof.Machine.execLevelTrialCaptureRead src tag payload s
  | .levelTrialStart src tag payload => Sys2Proof.Machine.execLevelTrialStart src tag payload s
  | .levelTrialPromote src tag payload => Sys2Proof.Machine.execLevelTrialPromote src tag payload s
  | .levelTrialEnd src tag payload => Sys2Proof.Machine.execLevelTrialEnd src tag payload s
  | .feedStatusRead src tag payload => Sys2Proof.Machine.execFeedStatusRead src tag payload s
  | .feedMode src tag payload => Sys2Proof.Machine.execFeedMode src tag payload s
  | .feedLevel src tag payload => Sys2Proof.Machine.execFeedLevel src tag payload s
  | .feedDuties src tag payload => Sys2Proof.Machine.execFeedDuties src tag payload s
  | .jobStart src tag payload => Sys2Proof.Machine.execJobStart src tag payload s
  | .jobEnd src tag payload => Sys2Proof.Machine.execJobEnd src tag payload s
  | .readoutOpen src tag payload => Sys2Proof.Machine.execReadoutOpen src tag payload s
  | .readoutStop src tag payload => Sys2Proof.Machine.execReadoutStop src tag payload s
  | .readoutStatus src tag payload => Sys2Proof.Machine.execReadoutStatus src tag payload s
  | .counterSelect src tag payload => Sys2Proof.Machine.execCounterSelect src tag payload s
  | .counterRead src tag payload => Sys2Proof.Machine.execCounterRead src tag payload s
  | .counterThreshold src tag payload => Sys2Proof.Machine.execCounterThreshold src tag payload s
  | .alertMaskSet src tag payload => Sys2Proof.Machine.execAlertMaskSet src tag payload s
  | .alertMaskClear src tag payload => Sys2Proof.Machine.execAlertMaskClear src tag payload s
  | .alertQuery src tag payload => Sys2Proof.Machine.execAlertQuery src tag payload s
  | .alertAck src tag payload => Sys2Proof.Machine.execAlertAck src tag payload s
  | .checkRead src tag payload => Sys2Proof.Machine.execCheckRead src tag payload s
  | .checkParityTest src tag payload => Sys2Proof.Machine.execCheckParityTest src tag payload s

end Sys2Proof.Machine
end

