-- ==== Sys2Proof/Machine/Frames.lean ====
section
/-! DEFINITION. The bits of a frame (11.2, 11.9): the fields in their order, the payload bytes of the frames whose layout
the manual gives, and the check. Nothing in exec depends on them: a slot holds a frame by its fields (log 16). -/

namespace Sys2Proof.Machine

/-- The class of a body (R155, R186, R191). -/
def Body.frameClass : Body → Nat
  | .claim _ => 4
  | .alert _ => 6
  | .reply _ _ => 10
  | .demand _ => 16
  | .levelStatus _ => 18
  | .feedStatus _ _ => 20
  | .coldSpot _ => 22
  | .header0 .. => 56
  | .header1 .. => 56
  | .header2 .. => 56
  | .record _ => 57
  | .void .. => 58
  | .close .. => 59

/-- A set flag as a byte 1, a clear one as 0. -/
def flagByte (b : Bool) : List Byte := [if b then 1 else 0]

/-- A signed value as two bytes, two's complement, most significant first (11.1). -/
def bytesOfInt (v : Int) : List Byte := bytesOf 2 (BitVec.ofInt 16 v).toNat

/-- The reason byte of a VOID (R155). -/
def voidCode : VoidReason → Nat
  | .lapped => 1
  | .damaged => 2

/-- The status byte of a READOUT-CLOSE (R155). -/
def closeCode : CloseStatus → Nat
  | .none => 0
  | .complete => 1
  | .stopped => 2
  | .ownerLost => 3

/-- The payload of a DEMAND (R63). -/
def demandBytes (d : Demand) : List Byte :=
  bytesOf 2 d.draw ++ bytesOf 1 d.want ++ bytesOf 1 d.need ++ flagByte d.ready ++ bytesOf 1 d.mode ++ bytesOf 1 d.node

/-- The payload of a CLAIM (R57). -/
def claimBytes (c : Claim) : List Byte := bytesOf 1 c.zone ++ bytesOf 1 c.power ++ bytesOf 1 c.need

/-- The payload of a LEVEL-STATUS (R101). -/
def levelStatusBytes (l : LevelStatus) : List Byte :=
  bytesOf 1 l.side ++ bytesOf 1 l.mode ++ bytesOfInt l.error ++ bytesOfInt l.duty ++ flagByte l.refValid ++
    flagByte l.trial

/-- The payload of a FEED-STATUS (R127). -/
def feedStatusBytes (f : FeedPart) (conveyor : Nat) : List Byte :=
  bytesOf 1 f.side ++ bytesOf 1 f.mode ++ flagByte f.starved ++ flagByte f.degraded ++ bytesOf 2 f.level ++
    bytesOf 2 conveyor

/-- The payload bytes of a body, where the manual lays them out; a REPLY's content and a header's fields have no widths
in it (log 16). -/
def Body.payload : Body → Option (List Byte)
  | .claim c => some (claimBytes c)
  | .alert a => some (bytesOf 1 a.source ++ bytesOf 2 a.present.toNat ++ bytesOf 2 a.mask.toNat)
  | .reply code .empty => some (bytesOf 1 (replyCodeNumber code))
  | .reply _ _ => none
  | .demand d => some (demandBytes d)
  | .levelStatus l => some (levelStatusBytes l)
  | .feedStatus f c => some (feedStatusBytes f c)
  | .coldSpot c => some (bytesOf 1 c.bay ++ bytesOf 3 c.interval ++ bytesOf 2 c.cold.toNat ++ bytesOf 1 c.coldest)
  | .header0 .. => none
  | .header1 .. => none
  | .header2 .. => none
  | .record b => some b
  | .void r first last => some (bytesOf 1 (voidCode r) ++ bytesOf 3 first.toNat ++ bytesOf 3 last.toNat)
  | .close st records voids remaining =>
    some (bytesOf 1 (closeCode st) ++ bytesOf 3 records ++ bytesOf 3 voids ++ bytesOf 2 remaining)

/-- The `n` low bits of a number, most significant first. -/
def bitsOf : Nat → Nat → List Bool
  | 0, _ => []
  | n + 1, v => v.testBit n :: bitsOf n v

/-- The remainder register after one bit: the generator is x^16 + x^15 + x^2 + 1 (11.2). -/
def checkStep (r : BitVec 16) (b : Bool) : BitVec 16 :=
  let shifted := (r <<< 1) ||| (if b then 1#16 else 0#16)
  if r.getLsbD 15 then shifted ^^^ 0x8005#16 else shifted

/-- The check over bits: the remainder of the bits followed by sixteen 0 bits; the register starts at 0 (11.2). -/
def checkOf (bits : List Bool) : BitVec 16 := (bits ++ List.replicate 16 false).foldl checkStep 0

/-- The bits of a frame before its check, in the order of 11.9. -/
def frameBits (cls : Nat) (src dst : Addr) (tag : Byte) (payload : List Byte) : List Bool :=
  bitsOf 6 cls ++ bitsOf 4 src ++ bitsOf 4 dst ++ bitsOf 8 tag.toNat ++ bitsOf 6 payload.length ++
    payload.flatMap fun b => bitsOf 8 b.toNat

/-- A whole frame on the line (11.9). -/
def lineBits (cls : Nat) (src dst : Addr) (tag : Byte) (payload : List Byte) : List Bool :=
  let bits := frameBits cls src dst tag payload
  bits ++ bitsOf 16 (checkOf bits).toNat

/-- The bits of a frame of this node, where its payload is laid out (R181). -/
def Frame.lineBits (f : Frame) (self : Addr) : Option (List Bool) :=
  f.body.payload.map (Machine.lineBits f.body.frameClass self f.dst f.tag)

end Sys2Proof.Machine
end

