-- ==== Sys2Proof/Safety.lean ====
section
/-! DEFINITION. What a lawful state is: the manual's laws L1, L2, L3, L5, L7 to L11 and the bounds its state tables give,
each with what makes it hold at every step. Terms in which the statements are made. -/

namespace Sys2Proof.Safety

open Sys2Proof.Machine

/-! ### Frames -/

/-- The parts of the state, for saying what a command leaves as it was. -/
inductive Part where
  | now
  | resetLine
  | haltInput
  | pins
  | strapReadings
  | cfg
  | lnk
  | ptb
  | trv
  | zht
  | gsu
  | lvc
  | fdc
  | msi
  | ring
  | rdu
  | mck
  | evc
  | alr
  | pending
  deriving DecidableEq, Repr

/-- A part is the same in two states. -/
def Part.same : Part → State → State → Prop
  | .now, s, t => t.now = s.now
  | .resetLine, s, t => t.resetLine = s.resetLine
  | .haltInput, s, t => t.haltInput = s.haltInput
  | .pins, s, t => t.pins = s.pins
  | .strapReadings, s, t => t.strapReadings = s.strapReadings
  | .cfg, s, t => t.cfg = s.cfg
  | .lnk, s, t => t.lnk = s.lnk
  | .ptb, s, t => t.ptb = s.ptb
  | .trv, s, t => t.trv = s.trv
  | .zht, s, t => t.zht = s.zht
  | .gsu, s, t => t.gsu = s.gsu
  | .lvc, s, t => t.lvc = s.lvc
  | .fdc, s, t => t.fdc = s.fdc
  | .msi, s, t => t.msi = s.msi
  | .ring, s, t => t.ring = s.ring
  | .rdu, s, t => t.rdu = s.rdu
  | .mck, s, t => t.mck = s.mck
  | .evc, s, t => t.evc = s.evc
  | .alr, s, t => t.alr = s.alr
  | .pending, s, t => t.pending = s.pending

/-- Every part but those listed is the same in `t` as in `s`. -/
def KeepsAllBut (changed : List Part) (s t : State) : Prop := ∀ p : Part, p ∉ changed → p.same s t

/-! ### Laws -/

/-- Heating (L1, L2, R53): an element that is on belongs to an ON zone; ON and CLAIMING zones exist only in RUN with the
link ACTIVE; the CLAIMING zone is the zone of the claim in flight; the own draw is the sum of the elements that are on. -/
abbrev HeatLaw (s : State) : Prop :=
  (∀ z : ZoneId, (s.zone z).element = true → (s.zone z).state = .on) ∧
  (∀ z : ZoneId, (s.zone z).state = .on ∨ (s.zone z).state = .claiming →
    s.cfg.node = .run ∧ s.lnk.listenUntil = none) ∧
  (∀ z : ZoneId, (s.zone z).state = .claiming ↔ s.gsu.claim.map (·.zone) = some z) ∧
  s.gsu.ownDraw = drawOf s

/-- Feed (L10, R113, R116): OFF in every node state but RUN and without the FEED strap; in OFF both duties are 0 and the
starved flag is clear. -/
abbrev FeedLaw (s : State) : Prop :=
  (s.cfg.node ≠ .run ∨ s.cfg.straps.feed = none → s.fdc.mode = .off) ∧
  (s.fdc.mode = .off → s.fdc.conveyor = 0 ∧ s.fdc.auger = 0 ∧ s.fdc.starved = false)

/-- A gain set is consistent: the ranges of items 28 to 32, with P at least d + 5 and u_max at least u_min (R90). -/
abbrev GainsLaw (g : Gains) : Prop :=
  5 ≤ g.d ∧ g.d + 5 ≤ g.p ∧ 0 ≤ g.uMin ∧ g.uMin ≤ g.uMax ∧ g.uMax ≤ 1000 ∧ 10 ≤ g.slew

/-- The u_max of the gain set driving the valve (L3). -/
def drivingMax (l : Lvc) : Int :=
  match l.trial with
  | some t => t.gains.uMax
  | none => l.gains.uMax

/-- The magnitude of a signed duty is at most `m`. -/
abbrev Within (v m : Int) : Prop := -m ≤ v ∧ v ≤ m

/-- A trial (L8, R103, R104): its gain set is consistent, its strike count below K, its guard within the active u_max. -/
abbrev TrialLaw (l : Lvc) (t : Trial) : Prop :=
  l.mode.corrects = true ∧ GainsLaw t.gains ∧ t.strikes < t.k ∧ Within t.guardSlew l.gains.uMax ∧
    Within t.guardDuty l.gains.uMax

/-- Levelling (L3, L8): the output within the driving set's u_max, and 0 unless the node is RUN and a MANUAL jog runs or
the mode is GRADE or SLOPE with travel MOVING. -/
abbrev ValveLaw (s : State) : Prop :=
  (s.cfg.node ≠ .run ∨ s.cfg.straps.lev = none → s.lvc.mode = .off) ∧
  Within s.lvc.output (drivingMax s.lvc) ∧
  (s.lvc.output ≠ 0 →
    s.cfg.node = .run ∧ ((s.lvc.mode = .manual ∧ s.lvc.jog.isSome = true) ∨
      (s.lvc.mode.corrects = true ∧ s.trv.state = .moving))) ∧
  (∀ j ∈ s.lvc.jog, s.lvc.mode = .manual ∧ s.lvc.output = j.duty) ∧
  (∀ t ∈ s.lvc.trial, TrialLaw s.lvc t) ∧
  (∀ t ∈ s.lvc.trial, s.trv.state ≠ .moving → s.lvc.paused = true ∨ t.guardDuty = 0) ∧
  Within s.lvc.slew (drivingMax s.lvc) ∧
  (s.lvc.slew ≠ 0 → s.lvc.mode.corrects = true ∧ s.trv.state = .moving) ∧
  (s.lvc.paused = true → s.lvc.output = 0 ∧ s.lvc.slew = 0 ∧ s.lvc.mode.corrects = true ∧ s.trv.state ≠ .moving) ∧
  GainsLaw s.lvc.gains

/-- A channel (L7): remaining at most count at most 4095, headers remaining at most the header count at most 3. -/
abbrev ChannelLaw (c : Channel) : Prop :=
  c.remaining ≤ c.count ∧ c.count ≤ 4095 ∧ c.headersLeft ≤ c.headerCount ∧ c.headerCount ≤ 3 ∧
    c.recordsSent ≤ max24 ∧ c.voidsSent ≤ max24

/-- Every readout channel is lawful (L7). -/
abbrev ReadoutLaw (s : State) : Prop := ∀ n : Fin 4, ChannelLaw (s.channel n)

/-- The seq of a stored record: its first three bytes (11.9). -/
def recordSeq (bytes : List Byte) : Seq := seq24 (bytes.getD 0 0) (bytes.getD 1 0) (bytes.getD 2 0)

/-- The record ring (L5): canonical, at most 4096 held, every held seq in its slot with its own number. -/
def RingLaw (r : Ring) : Prop :=
  r.wf = true ∧ r.overwritten ≤ max24 ∧ ∀ q : Seq, r.holds q = true → recordSeq (r.read (slotOf q)).bytes = q

/-- A counter (L9): its value never exceeds 16777215; a capture belongs to a reached threshold. -/
abbrev CounterLaw (c : Counter) : Prop := c.value ≤ max24 ∧ c.selection ≤ 24 ∧ c.threshold ≤ max24

/-- Every event counter is lawful (L9). -/
abbrev CountersLaw (s : State) : Prop := ∀ n : Fin 4, CounterLaw (s.counter n)

/-- The memory check (L11): the overflow flag only while pending, pending exactly while the capture is filled. -/
abbrev CheckLaw (m : Mck) : Prop := (m.overflow = true → m.pending = true) ∧ m.pending = m.capture.isSome

/-- The link (R184, R185, R187): the tally, the lists' bounds, an empty slot's empty list; in LISTEN-ONLY and under the
reset line nothing waits; the frame being sent stands in its slot. -/
abbrev LinkLaw (s : State) : Prop :=
  s.lnk.tally ≤ 135 ∧ (s.lnk.listenUntil = none → s.lnk.tally < 128) ∧
  s.lnk.uList.length ≤ 4 ∧ (s.lnk.slotU = none → s.lnk.uList = []) ∧ (s.lnk.slotP = none → s.lnk.pList = []) ∧
  (s.lnk.pList.map fun f => f.body.pClass).Nodup ∧ (∀ f ∈ s.lnk.pList, f.body.pClass ≠ 0) ∧
  (s.lnk.listenUntil ≠ none ∨ s.resetLine = true →
    s.lnk.slotU = none ∧ s.lnk.slotP = none ∧ s.lnk.slotB = none ∧ s.lnk.sending = none) ∧
  (∀ x ∈ s.lnk.sending, (s.lnk.slot x).isSome = true)

/-- A source is in the present set. -/
abbrev isPresent (s : State) (a : AlertSource) : Prop := hasBit s.alr.present (a.number - 1) = true

/-- Level sources follow their conditions (R175): 1, 2, 6, 7 and 9, which change only by commands; the sets name only the
twelve sources (R176). While the reset line is asserted ALR takes no report. -/
abbrev AlertLaw (s : State) : Prop :=
  (s.resetLine = false →
    (isPresent s .haltInput ↔ s.haltInput = true) ∧ (isPresent s .zoneFault ↔ anyZone s .fault = true) ∧
    (isPresent s .starved ↔ s.fdc.starved = true) ∧ (isPresent s .checkPending ↔ s.mck.pending = true) ∧
    (isPresent s .listenOnly ↔ s.lnk.listenUntil ≠ none)) ∧
  s.alr.present &&& namedSources = s.alr.present ∧ s.alr.mask &&& namedSources = s.alr.mask

/-- Node control (R5, R6, R8, R11): RUN and HALT only with a valid configuration whose check value holds under the straps
kept with it, and a check value of 0 without one; RUN never with the HALT input asserted. -/
abbrev NodeLaw (s : State) : Prop :=
  (s.cfg.node ≠ .setup → s.cfg.valid = true) ∧
  (s.cfg.valid = true → s.cfg.check = checkValue s.cfg.committed s.cfg.keptStraps) ∧
  (s.cfg.valid = false → s.cfg.check = 0) ∧
  (s.resetLine = false → s.cfg.node = .run → s.haltInput = false)

/-- Travel and jobs (R26, R29, R132): at most 40 increments, the index bounded, MSI's condition following TRV's job. -/
abbrev TravelLaw (s : State) : Prop :=
  s.trv.motion.length ≤ 40 ∧ s.trv.index ≤ max24 ∧ s.msi.openIndex ≤ max24 ∧ s.msi.accumulating = s.trv.jobOpen ∧
    (s.trv.state ≠ .unknown → s.trv.last.isSome = true)

/-- Gains (R9, R10, R90): committed items 28 to 32 are a consistent gain set and are the active set, as is a trial's; of
the working items d, u_min, u_max and slew keep the bounds that CONFIG-SET gives them. That of u_min at the top is what keeps
u_max's: CONFIG-SET raises u_max to u_min. -/
abbrev GainItemsLaw (s : State) : Prop :=
  GainsLaw (gainsOf s.cfg.committed) ∧ s.lvc.gains = gainsOf s.cfg.committed ∧
    (∀ t ∈ s.lvc.trial, GainsLaw t.gains) ∧ 5 ≤ itemOf s.cfg.working 28 ∧ 0 ≤ itemOf s.cfg.working 30 ∧
    itemOf s.cfg.working 30 ≤ 500 ∧ itemOf s.cfg.working 31 ≤ 1000 ∧ 10 ≤ itemOf s.cfg.working 32

/-- Lanes (R130, R133): no lane counts more than 65535 samples, and its sum is one of as many valid readings, each of
-20.0..300.0 degrees C. -/
abbrev LanesLaw (s : State) : Prop :=
  ∀ i : Fin 12, s.msi.lanes[i].count ≤ 65535 ∧ -200 * (s.msi.lanes[i].count : Int) ≤ s.msi.lanes[i].sum ∧
    s.msi.lanes[i].sum ≤ 3000 * (s.msi.lanes[i].count : Int)

/-! ### The link in a statement -/

/-- The frames that wait for slot U: the one in the slot, then its list, as they go to the line (R187). -/
abbrev queuedU (s : State) : List Frame := s.lnk.slotU.toList ++ s.lnk.uList

/-- An ALERT frame (R180). -/
def Frame.isAlert (f : Machine.Frame) : Bool :=
  match f.body with
  | .alert _ => true
  | _ => false

/-- Frames that ALR queued, and no others, stand in `t` behind the first `n` of slot U's queue. -/
abbrev AlertsBehind (n : Nat) (t : State) : Prop := ∀ f ∈ (queuedU t).drop n, Frame.isAlert f = true

/-- Slot U's queue of `s` stands in `t`, and only ALERT frames have joined it. -/
abbrev OnlyAlertsJoin (s t : State) : Prop :=
  (queuedU t).take (queuedU s).length = queuedU s ∧ AlertsBehind (queuedU s).length t

/-- Slot P and its list are as they were. -/
abbrev QuietP (s t : State) : Prop := t.lnk.slotP = s.lnk.slotP ∧ t.lnk.pList = s.lnk.pList

/-- The tally, the link state, slot B and the pending NODE-RESET are as they were. -/
abbrev LinkStands (s t : State) : Prop :=
  t.lnk.tally = s.lnk.tally ∧ t.lnk.listenUntil = s.lnk.listenUntil ∧ t.lnk.slotB = s.lnk.slotB ∧
    t.lnk.resetPending = s.lnk.resetPending

/-- The tally, the link state and the pending NODE-RESET are as they were; slot B may have changed. -/
abbrev LinkRunsOn (s t : State) : Prop :=
  t.lnk.tally = s.lnk.tally ∧ t.lnk.listenUntil = s.lnk.listenUntil ∧ t.lnk.resetPending = s.lnk.resetPending

/-- The state after the step of the lowest-numbered channel with a frame ready in `v`; `v` itself with none (R162). -/
def afterStep (v : State) : State :=
  match readyChannel v with
  | some n => (formFrame n v).1
  | none => v

/-- Between `v`, whose slot B is empty, and `t` the bulk arbiter has filled slot B at once: with the frame of the
lowest-numbered channel that has one ready, which takes its step, or with none (R155 to R158, R162, R165). -/
abbrev ArbiterFills (v t : State) : Prop :=
  t.lnk.slotB = (readyChannel v).map (fun n =>
    { dst := (v.channel n).owner.getD 15, tag := BitVec.ofNat 8 n, body := (formFrame n v).2, resets := false }) ∧
  t.rdu = (afterStep v).rdu ∧ t.mck = (afterStep v).mck

/-- A channel that an owner reads from: in HEADERS, RECORDS or WAIT (R164). -/
abbrev Reading (c : Channel) : Prop := c.state = .headers ∨ c.state = .records ∨ c.state = .wait

/-- LNK is as it was, but that ALERT frames may have joined slot U's queue, and one of its frames may have gone on the line. -/
abbrev OnlyAlerts (s t : State) : Prop := LinkStands s t ∧ QuietP s t ∧ OnlyAlertsJoin s t

/-- LNK is as it was, but that frames of the P classes may have been queued, ALERT frames may have joined slot U's queue,
and a waiting frame may have gone on the line. -/
abbrev OnlyBroadcasts (s t : State) : Prop := LinkStands s t ∧ OnlyAlertsJoin s t

/-- LNK is as it was but for the line, which is busy with the frame just received (11.1). -/
abbrev OnlyLine (s t : State) : Prop := t.lnk = { s.lnk with lineIdle := false }

/-! ### Events in a statement -/

/-- The present set after an occurrence of an event: with source 11 if some counter reaches its threshold (R172), which one
with a filled capture does not (log 58). -/
def presentAfter (e : Event) (amount : Nat) (s : State) : Bits :=
  if s.evc.counters.toList.any (reachesThreshold e amount) then s.alr.present ||| AlertSource.threshold.mask
  else s.alr.present

/-- In `t` the counters of `s` have counted one occurrence of an event, at the time and interval index given (R170, R172). -/
abbrev Counts (e : Event) (item amount : Nat) (now : Time) (index : Nat) (s t : State) : Prop :=
  t.evc.counters = countAll e item amount now index s.evc.counters

/-! ### Requests -/

/-- The REPLY of a request stands in `t` behind everything that waited in `s`, with an outcome and its content, and only
ALERT frames stand behind it (R180, R191). -/
abbrev Replied (s t : State) (src : Addr) (tag : Byte) (code : ReplyCode) (content : Content) : Prop :=
  (queuedU t).take (queuedU s).length = queuedU s ∧
  (queuedU t)[(queuedU s).length]? =
    some { dst := src, tag := tag, body := .reply code content, resets := t.lnk.resetPending.isSome } ∧
  AlertsBehind ((queuedU s).length + 1) t

/-- A request frame that the node takes (R181, R186, R190): the reset line released, a payload of at most 40 bytes, a source
other than 15 and the own address, no NODE-RESET pending, room for a REPLY. -/
abbrev Takes (s : State) (src : Addr) (payload : List Byte) : Prop :=
  s.resetLine = false ∧ payload.length ≤ 40 ∧ src ≠ 15 ∧ src ≠ s.self ∧ s.lnk.resetPending = none ∧ canQueueU s = true

/-- A broadcast frame that the node receives (R181, R186). -/
abbrev Hears (s : State) (src : Addr) (payload : List Byte) : Prop :=
  s.resetLine = false ∧ payload.length ≤ 40 ∧ src ≠ 15 ∧ src ≠ s.self

/-- The event that a request with an outcome counts (R191). -/
def answerEvent (code : ReplyCode) : Event := if code.performed then .requestTaken else .requestRefused

/-- What taking a request does beside its own effect on the listed parts: the requester's entry is written in its general
part, event 5 or 6 is counted, of the alert unit at most source 11 is latched, and of LNK only slot U's queue changes (R15,
R172, R191). A statement that lists PTB's, EVC's, ALR's or LNK's part says itself what happens to it. -/
abbrev TakenFrame (changed : List Part) (code : ReplyCode) (src : Addr) (s t : State) : Prop :=
  KeepsAllBut ([.lnk, .ptb, .evc, .alr] ++ changed) s t ∧
  t.ptb = (hear src s).ptb ∧
  (Part.evc ∈ changed ∨ Counts (answerEvent code) src 1 s.now s.trv.index s t) ∧
  (Part.alr ∈ changed ∨ t.alr = { present := presentAfter (answerEvent code) 1 s, mask := s.alr.mask }) ∧
  (Part.lnk ∈ changed ∨ (LinkStands s t ∧ QuietP s t)) ∧
  t.lnk.sending = s.lnk.sending ∧ t.lnk.lineIdle = false

/-- A request is answered: its REPLY, and the rest of what taking it does. -/
abbrev Answered (changed : List Part) (s t : State) (src : Addr) (tag : Byte) (code : ReplyCode) (content : Content) :
    Prop :=
  Replied s t src tag code content ∧ TakenFrame changed code src s t

/-- A frame with a body waits in slot P or in its list (R187). -/
abbrev WaitsInP (t : State) (b : Body) : Prop := ∃ f ∈ t.lnk.slotP.toList ++ t.lnk.pList, f.body = b

/-- A DEMAND that says what the state says waits in slot P or in its list (R63); its want is 0 with no offer made (log 13). -/
abbrev DemandWaits (t : State) : Prop := WaitsInP t (.demand (demandNow t))

/-! ### Shared effects -/

/-- A zone wants power: it is WANT, or the offer made at once has made it CLAIMING (R41, R43). -/
abbrev WantsPower (t : State) (z : ZoneId) : Prop :=
  (t.zone z).state = .want ∨ ((t.zone z).state = .claiming ∧ t.gsu.claim.map (·.zone) = some z)

/-- A worked zone stands where its reading alone places it, `least` and `most` the on and the overtemperature threshold
(R38). -/
abbrev PlacedByReading (t : State) (z : ZoneId) (reading least most : Int) : Prop :=
  if most < reading then (t.zone z).state = .overtemp
  else if reading < least then WantsPower t z
  else (t.zone z).state = .idle

/-- Between `u` and `t` the node has shed the element of zone `z`, in the five steps of R69: a claim withdrawn with event 9
(R61), the hold-off started, the zone SHED for 10 s with event 11, the draw reported, the SHED flag raised. -/
abbrev Sheds (z : ZoneId) (u t : State) : Prop :=
  t.zone z = { u.zone z with element := false, lowCount := 0, state := .shed, shedLock := some (u.now + 10000) } ∧
  t.gsu.holdOff = some (u.now + 200) ∧ t.gsu.claim = none ∧ t.gsu.ownDraw = drawOf t ∧
  (∀ c ∈ u.gsu.claim, t.gsu.backOff = some (u.now + BitVec.ofNat 32 (100 + 20 * u.cfg.straps.bay)) ∧
    (c.zone ≠ z → (u.zone c.zone).state = .claiming → (t.zone c.zone).state = .want) ∧
    t.evc.counters = countAll .elementShed z 1 u.now u.trv.index
      (countAll .claimWithdrawn c.zone 1 u.now u.trv.index u.evc.counters)) ∧
  (u.gsu.claim = none → t.evc.counters = countAll .elementShed z 1 u.now u.trv.index u.evc.counters) ∧
  (accumulates u = true → hasBit t.msi.flags IntervalFlag.shed.position = true) ∧
  (isPresent t .overload ↔ overloaded t = true) ∧ (u.active = true → DemandWaits t)

/-- Between `u` and `t` the correction has entered HOLD for a reason (R81, R99): output, slew state, last error and
saturation run 0, PAUSED clear, a jog and the partner watch ended, a trial ended with the same reason and its capture
filled, event 15 counted and source 4 latched. -/
abbrev EntersHold (r : HoldReason) (u t : State) : Prop :=
  t.lvc = { u.lvc with
    mode := .hold r, output := 0, slew := 0, lastError := 0, satRun := 0, paused := false, partnerWatch := none,
    jog := none, trial := none,
    capture := match u.lvc.trial with
      | some x => some (captureOf r.trialReason x u)
      | none => u.lvc.capture } ∧
  t.evc.counters = countAll .holdEntered 0 1 u.now u.trv.index u.evc.counters ∧ isPresent t .hold

/-- The starvation condition at an evaluation that leaves `t`, for the level judged and the paddle read (R125). -/
def starvesAt (t : State) (level : Option Int) (paddle : Bool) : Bool :=
  t.fdc.conveyor == 1000 && (match level with
    | some l => decide (l < t.item 38)
    | none => !paddle)

/-- An evaluation finds material again, for the level judged and the paddle read (R126). -/
def findsMaterial (t : State) (level : Option Int) (paddle : Bool) : Bool :=
  match level with
  | some l => decide (t.item 38 + 50 ≤ l)
  | none => paddle

/-- Between `u` and `t` an evaluation has judged starvation: the flag, the timer, event 17 after the counters `c`, source 6
at a change of the flag (R125, R126). -/
abbrev StarvationJudged (level : Option Int) (paddle : Bool) (c : Vector Counter 4) (u t : State) : Prop :=
  t.fdc.starved = (if u.fdc.starved then !findsMaterial t level paddle
    else starvesAt t level paddle && u.fdc.starveSince.any fun x => decide (u.item 39 * 1000 ≤ (u.age x : Int))) ∧
  t.fdc.starveSince = (if u.fdc.starved then u.fdc.starveSince
    else if starvesAt t level paddle && !t.fdc.starved then some (u.fdc.starveSince.getD u.now) else none) ∧
  t.evc.counters = (if t.fdc.starved && !u.fdc.starved then countAll .starvedEntered 0 1 u.now u.trv.index c else c) ∧
  (t.fdc.starved ≠ u.fdc.starved → (isPresent t .starved ↔ t.fdc.starved = true))

/-- The commands that act while the reset line is asserted: the supply, the reset line itself, and the level of the HALT
input (R12; log 25). -/
def actsInReset : Instr → Bool
  | .powerUp _ | .resetLineAsserted | .warmReset _ | .haltInputAsserted | .haltInputReleased => true
  | _ => false

/-- The commands that may lower the value of a counter (L9): a reset, COUNTER SELECT of it, a clearing COUNTER READ. A
carried frame and the NODE-RESET bound may start the warm reset. -/
def mayClear (n : Fin 4) : Instr → Bool
  | .powerUp _ | .warmReset _ | .nodeResetTimeout | .frameCarried => true
  | .counterSelect _ _ [_, m, _] => m.toNat == n.val
  | .counterRead _ _ [_, _, f] => f == 1
  | _ => false

/-- The address and payload of a request row, with its tag. -/
def requestOf : Instr → Option (Addr × Byte × List Byte)
  | .configSet a g p | .configCommit a g p | .nodeResume a g p | .nodeReset a g p | .identRead a g p => some (a, g, p)
  | .heatSetKeep a g p | .heatSetOff a g p | .heatSetOn a g p | .heatSetStandbyNow a g p => some (a, g, p)
  | .levelModeOff a g p | .levelModeManual a g p | .levelModeGrade a g p | .levelModeSlope a g p => some (a, g, p)
  | .levelSetOffset a g p | .levelSetSlope a g p | .levelSetJog a g p | .levelZero a g p => some (a, g, p)
  | .levelGains a g p | .levelTrialCaptureRead a g p | .levelTrialStart a g p | .levelTrialPromote a g p => some (a, g, p)
  | .levelTrialEnd a g p | .feedStatusRead a g p | .feedMode a g p | .feedLevel a g p | .feedDuties a g p => some (a, g, p)
  | .jobStart a g p | .jobEnd a g p | .readoutOpen a g p | .readoutStop a g p | .readoutStatus a g p => some (a, g, p)
  | .counterSelect a g p | .counterRead a g p | .counterThreshold a g p | .alertMaskSet a g p => some (a, g, p)
  | .alertMaskClear a g p | .alertQuery a g p | .alertAck a g p | .checkRead a g p | .checkParityTest a g p =>
    some (a, g, p)
  | .unassignedRequest _ a g p => some (a, g, p)
  | _ => none

/-- The source and payload of a row that is a frame of another station: a broadcast, a request, or a frame of which only
the general part matters. -/
def heardOf : Instr → Option (Addr × List Byte)
  | .otherFrameHeard a | .requestDropped a => some (a, [])
  | .demandArrival a p | .claimArrival a p | .levelStatusArrival a p | .feedStatusArrival a p | .travelFrame a p =>
    some (a, p)
  | .unassignedRequest cls a _ p => if 49 ≤ cls ∧ cls ≤ 55 then some (a, p) else none
  | c => (requestOf c).map fun x => (x.1, x.2.2)

/-- The rank of a slot among equal local priority items: U, then P, then B (R187). -/
def slotRank : Slot → Nat
  | .u => 0
  | .p => 1
  | .b => 2

/-- The node states in which a request row's request passes the gate of R3, by its own payload for JOB. -/
def gatePasses (c : Instr) (n : NodeState) : Bool :=
  match c with
  | .configSet .. | .configCommit .. => n == .setup
  | .nodeResume .. => n == .halt
  | .levelModeOff .. | .levelModeManual .. | .levelModeGrade .. | .levelModeSlope .. => n == .run
  | .feedStatusRead .. | .feedMode .. | .feedLevel .. | .feedDuties .. => n == .run
  | .heatSetKeep .. | .heatSetOff .. | .heatSetOn .. | .heatSetStandbyNow .. => n != .setup
  | .levelSetOffset .. | .levelSetSlope .. | .levelSetJog .. | .levelZero .. | .levelGains .. => n != .setup
  | .levelTrialCaptureRead .. | .levelTrialStart .. | .levelTrialPromote .. | .levelTrialEnd .. => n != .setup
  | .jobStart _ _ p | .jobEnd _ _ p => if p.head? = some 1 then n == .run else n != .setup
  | _ => true

end Sys2Proof.Safety
end

