-- ==== Sys2Proof/WellFormed.lean ====
section
/-! DEFINITION. Which terms of Instr are commands that the line and the sensors can deliver. exec is defined on every
term; only a sweep without twelve readings and a class outside 49..55 stop it (log 19). -/

namespace Sys2Proof

/-- A payload of at most 40 bytes: a longer one fails its check (R181). -/
def payloadFits (payload : List Byte) : Bool := decide (payload.length ≤ 40)

/-- A frame reaches the rows of arrivals and requests from a source 0..14; source 15 has a row of its own (R186). -/
def sourceFits (src : Addr) : Bool := src != 15

/-- The first byte of a request is the row's own, or one that names no row of its class (`others` are the class's other
rows), or there is none. -/
def firstByteFits (others : List Byte) (payload : List Byte) : Bool :=
  match payload with
  | b :: _ => !others.contains b
  | [] => true

/-- A request as a frame: its source, its length, its first byte. -/
def requestFits (others : List Byte) (src : Addr) (payload : List Byte) : Bool :=
  sourceFits src && payloadFits payload && firstByteFits others payload

/-- A request of a row that is named by an empty payload (R102, R117). -/
def emptyRequestFits (src : Addr) (payload : List Byte) : Bool := sourceFits src && payload.isEmpty

/-- A request of a row whose class has another row for the empty payload. -/
def filledRequestFits (others : List Byte) (src : Addr) (payload : List Byte) : Bool :=
  requestFits others src payload && !payload.isEmpty

/-- A broadcast frame that is written into the peer table. -/
def arrivalFits (src : Addr) (payload : List Byte) : Bool := sourceFits src && payloadFits payload

/-- A command is well formed. -/
def Instr.wellFormed : Instr → Bool
  | .powerUp _ | .resetLineAsserted | .warmReset _ | .haltInputAsserted | .haltInputReleased => true
  | .extensionSensorArrival _ | .thermocoupleSample _ _ _ | .sampleTimeout _ | .standbyTimerExpiry => true
  | .claimWindowExpiry | .backOffEnd | .shedHoldOffExpiry | .demandPeriodExpiry | .ownDemandAgeLimit => true
  | .peerAgeingScan | .travelTimerExpiry | .lineIdle | .arbitrationLost _ | .frameCarried | .transmitError => true
  | .listenOnlyTimerExpiry | .checkFailureHeard | .source15Frame | .ownAddressHeard => true
  | .otherFrameHeard src => sourceFits src
  | .demandArrival src p | .claimArrival src p | .levelStatusArrival src p | .feedStatusArrival src p => arrivalFits src p
  | .travelFrame src p => arrivalFits src p
  | .headReadingArrival _ _ | .inclinometerArrival _ | .levellingCycle | .partnerWatchExpiry | .jogEnd => true
  | .levelStatusTimerExpiry | .levelSensorArrival _ | .feedEvaluation _ | .runOnExpiry | .feedStatusTimerExpiry => true
  | .sweepArrival readings => readings.length == 12
  | .sweepTimeout | .nodeResetTimeout => true
  | .requestDropped src => sourceFits src
  | .unassignedRequest cls src _ p => decide (49 ≤ cls ∧ cls ≤ 55) && requestFits [] src p
  | .configSet src _ p | .configCommit src _ p | .nodeResume src _ p | .nodeReset src _ p => requestFits [] src p
  | .identRead src _ p | .levelZero src _ p | .levelGains src _ p => requestFits [] src p
  | .heatSetKeep src _ p => requestFits [1, 2, 3] src p
  | .heatSetOff src _ p => requestFits [0, 2, 3] src p
  | .heatSetOn src _ p => requestFits [0, 1, 3] src p
  | .heatSetStandbyNow src _ p => requestFits [0, 1, 2] src p
  | .levelModeOff src _ p => requestFits [1, 2, 3] src p
  | .levelModeManual src _ p => requestFits [0, 2, 3] src p
  | .levelModeGrade src _ p => requestFits [0, 1, 3] src p
  | .levelModeSlope src _ p => requestFits [0, 1, 2] src p
  | .levelSetOffset src _ p => requestFits [2, 3] src p
  | .levelSetSlope src _ p => requestFits [1, 3] src p
  | .levelSetJog src _ p => requestFits [1, 2] src p
  | .levelTrialCaptureRead src _ p | .feedStatusRead src _ p => emptyRequestFits src p
  | .levelTrialStart src _ p => filledRequestFits [2, 3] src p
  | .levelTrialPromote src _ p => filledRequestFits [1, 3] src p
  | .levelTrialEnd src _ p => filledRequestFits [1, 2] src p
  | .feedMode src _ p => filledRequestFits [2, 3] src p
  | .feedLevel src _ p => filledRequestFits [1, 3] src p
  | .feedDuties src _ p => filledRequestFits [1, 2] src p
  | .jobStart src _ p => requestFits [2] src p
  | .jobEnd src _ p => requestFits [1] src p
  | .readoutOpen src _ p => requestFits [2, 3] src p
  | .readoutStop src _ p => requestFits [1, 3] src p
  | .readoutStatus src _ p => requestFits [1, 2] src p
  | .counterSelect src _ p => requestFits [2, 3] src p
  | .counterRead src _ p => requestFits [1, 3] src p
  | .counterThreshold src _ p => requestFits [1, 2] src p
  | .alertMaskSet src _ p => requestFits [2, 3, 4] src p
  | .alertMaskClear src _ p => requestFits [1, 3, 4] src p
  | .alertQuery src _ p => requestFits [1, 2, 4] src p
  | .alertAck src _ p => requestFits [1, 2, 3] src p
  | .checkRead src _ p => requestFits [2] src p
  | .checkParityTest src _ p => requestFits [1] src p

end Sys2Proof
end

