-- ==== Sys2Proof/Certificates/Slice0/Obligations.lean ====
section
/-! DEFINITION. The statements for the provers, chapter by chapter of the manual: general ones, the laws that every step
keeps, then what each command does, with its frame. -/

open Sys2Proof Sys2Proof.Machine Sys2Proof.Safety

/-- The block takes its commands one by one, each whole: with a command c at the front of the queue and rest behind
    it, the step is exec of c on the state whose queue is rest. How commands reach the block is the model's choice
    (log 3). -/
def Obligations.StepRunsFront : Prop :=
  ∀ (s : State) (c : Instr) (rest : List Instr),
      s.pending = c :: rest →
      step s = exec c (s.setPending rest)

/-- The node time count rises by 1 each millisecond and wraps. That a step on an empty queue is one millisecond is the
    model's choice (log 1): the state is as before with the node time count raised by 1. -/
def Obligations.IdleStepPassesOneMillisecond : Prop :=
  ∀ (s : State),
      s.pending = [] →
      step s = .next (s.setNow (s.now + 1))

/-- Commands come from outside the block, so a command's effect is on everything but the queue: whatever exec answers
    next leaves the queue as it was. The queue is the model's own field (log 3). -/
def Obligations.QueueUntouched : Prop :=
  ∀ (s t : State) (c : Instr),
      exec c s = .next t →
      t.pending = s.pending

/-- The manual stops the node nowhere. Every well-formed command answers a next state in every state of the machine;
    exec never refuses; and it faults only on a term that no command of its row can be (log 19 is the model's choice).
    -/
def Obligations.EveryWellFormedCommandRuns : Prop :=
  (∀ (s : State) (c : Instr),
      c.wellFormed = true →
      ∃ t, exec c s = .next t ∧ t.pending = s.pending) ∧
  (∀ (s : State) (c : Instr) (r : Refusal),
      exec c s ≠ .refused r) ∧
  (∀ (s : State) (c : Instr) (f : Fault),
      exec c s = .fault f →
      f = .illFormed ∧ c.wellFormed = false)

/-- While the reset line is asserted the node receives no frame, takes no arrival and no report, and runs no timer's
    effect: a well-formed command other than POWER_UP, RESET_LINE_ASSERTED, WARM_RESET and the two of the HALT input
    leaves the state as it is. Of the HALT input only the level on the pin changes. That every expiry is passed over
    too is the model's reading (log 25). -/
def Obligations.ResetLineHoldsEveryBlock : Prop :=
  (∀ (s : State) (c : Instr),
      s.resetLine = true →
      c.wellFormed = true →
      actsInReset c = false →
      exec c s = .next s) ∧
  (∀ (s : State),
      s.resetLine = true →
      exec .haltInputAsserted s = .next (s.setHaltInput true) ∧
          exec .haltInputReleased s = .next (s.setHaltInput false))

/-- State.reset satisfies the laws of heating, feed, levelling, gains, readout, ring, counters, memory check, link,
    alerts, node control and travel. The values of State.reset that the manual does not give are the model's choice
    (logs 4, 5, 6, 17, 22). -/
def Obligations.LawsHoldAtReset : Prop :=
  HeatLaw State.reset ∧ FeedLaw State.reset ∧ ValveLaw State.reset ∧ GainItemsLaw State.reset ∧ ReadoutLaw State.reset ∧
    RingLaw State.reset.ring ∧ CountersLaw State.reset ∧ CheckLaw State.reset.mck ∧ LinkLaw State.reset ∧
    AlertLaw State.reset ∧ NodeLaw State.reset ∧ TravelLaw State.reset

/-- From every state in which an element that is on belongs to an ON zone, ON and CLAIMING zones exist only in RUN
    with the link ACTIVE, the CLAIMING zone is exactly the zone of the claim in flight, and the own draw is the sum of
    the elements that are on, each step leads to such a state: L1's node and link parts (R53). And from every state,
    lawful or not, an element that a command switches on is one that CLAIM_WINDOW_EXPIRY switched on, with the reset
    line released, and its zone that of the claim in flight, in its window (L2, R59); so for every other command an
    element on after it was on before it. L1's third part, the age of the own DEMAND, is no such law of each state: it
    rests on OWN_DEMAND_AGE_LIMIT being taken at its moment (log 2). -/
def Obligations.HeatLawKept : Prop :=
  (∀ (s t : State),
      HeatLaw s →
      step s = .next t →
      HeatLaw t) ∧
  (∀ (s t : State) (c : Instr) (z : ZoneId),
      exec c s = .next t →
      (s.zone z).element = false →
      (t.zone z).element = true →
      c = .claimWindowExpiry ∧ s.resetLine = false ∧ (∃ x ∈ s.gsu.claim, x.zone = z ∧ x.window.isSome = true))

/-- From every state in which the feed mode is OFF unless the node is RUN with the FEED strap fitted, and in OFF both
    duties are 0 and the starved flag is clear, each step leads to such a state (L10). -/
def Obligations.FeedLawKept : Prop :=
  ∀ (s t : State),
      FeedLaw s →
      step s = .next t →
      FeedLaw t

/-- From every state that obeys the valve law (L3: the output within the driving set's u_max, and 0 unless the node is
    RUN and a MANUAL jog runs or GRADE or SLOPE drives with travel MOVING; L8: a trial's strike count below K; the
    guard within the active u_max) with consistent gain sets, and working items 28, 30, 31 and 32 in the bounds that
    CONFIG-SET gives them (R9), each step leads to such a state. And from every state in which each lane's count is at
    most 65535 and its sum within -20.0 to 300.0 degrees times the count, each step leads to such a state; State.reset
    is one. -/
def Obligations.LevelLawKept : Prop :=
  (∀ (s t : State),
      ValveLaw s ∧ GainItemsLaw s →
      step s = .next t →
      ValveLaw t ∧ GainItemsLaw t) ∧
  (∀ (s t : State),
      LanesLaw s →
      step s = .next t →
      LanesLaw t) ∧
  (LanesLaw State.reset)

/-- From every state in which each channel's remaining is at most its count, the count at most 4095, the headers
    remaining at most the header count and that at most 3, and both totals at most 16777215, each step leads to such a
    state (L7). -/
def Obligations.ReadoutLawKept : Prop :=
  ∀ (s t : State),
      ReadoutLaw s →
      step s = .next t →
      ReadoutLaw t

/-- From every state whose ring is in canonical form, holds at most 4096 records, and holds in slot seq modulo 4096,
    for every held seq, a record that carries that seq, each step leads to such a state (L5). The canonical form of
    the sparse slot list is the model's (log 8). -/
def Obligations.RingLawKept : Prop :=
  ∀ (s t : State),
      RingLaw s.ring →
      step s = .next t →
      RingLaw t.ring

/-- From every state in which each event counter's value is at most 16777215, and the memory check's overflow flag is
    set only while its pending flag is, which is set exactly while the capture is filled, each step leads to such a
    state (L9, L11). -/
def Obligations.CountersAndCheckLawKept : Prop :=
  ∀ (s t : State),
      CountersLaw s ∧ CheckLaw s.mck →
      step s = .next t →
      CountersLaw t ∧ CheckLaw t.mck

/-- From every state in which the tally is at most 135 and below 128 while ACTIVE, the U list holds at most four
    frames, the P list at most one of each class, an empty slot has an empty list, nothing waits in LISTEN-ONLY or
    under the reset line, and the frame on the line stands in its slot, each step leads to such a state. -/
def Obligations.LinkLawKept : Prop :=
  ∀ (s t : State),
      LinkLaw s →
      step s = .next t →
      LinkLaw t

/-- From every state in which, with the reset line released, sources 1, 2, 6, 7 and 9 are present exactly while the
    HALT input is asserted, a zone is in FAULT, the starved flag is set, a check capture is pending and the link is
    LISTEN-ONLY, and both sets name only the twelve sources, each step leads to such a state. -/
def Obligations.AlertLawKept : Prop :=
  ∀ (s t : State),
      AlertLaw s →
      step s = .next t →
      AlertLaw t

/-- From every state in which RUN and HALT are held only with a valid configuration whose check value holds under the
    kept straps (0 while invalid), RUN never with the HALT input asserted, the motion list holds at most 40
    increments, the indexes are within 24 bits, MSI accumulates exactly while TRV's job is open, and travel is known
    only after an accepted frame, each step leads to such a state. -/
def Obligations.NodeAndTravelLawKept : Prop :=
  ∀ (s t : State),
      NodeLaw s ∧ TravelLaw s →
      step s = .next t →
      NodeLaw t ∧ TravelLaw t

/-- For every well-formed command that is not COUNTER SELECT of counter n, a clearing COUNTER READ or one that may
    reset the node (a supply or reset event, the NODE-RESET bound, a carried frame that may be the REPLY to a NODE-
    RESET), the value of counter n after it is at least the value before, from every state in which the value is at
    most 16777215 (L9). -/
def Obligations.CounterFallsOnlyWhenCleared : Prop :=
  ∀ (s t : State) (c : Instr) (n : Fin 4),
      c.wellFormed = true →
      mayClear n c = false →
      (s.counter n).value ≤ max24 →
      exec c s = .next t →
      (s.counter n).value ≤ (t.counter n).value

/-- The bytes of a DEMAND, a CLAIM, a LEVEL-STATUS and a FEED-STATUS, laid out most significant byte first as the
    manual's tables give them, have their lengths of 7, 3, 8 and 8 and are read back by a receiving node as the very
    fields, for every field value its width admits. The order of the fields is that of the tables' rows (log 15, the
    model's reading). -/
def Obligations.BroadcastPayloadsRoundTrip : Prop :=
  (∀ (d : Demand),
      d.draw < 65536 →
      d.want < 256 →
      d.need < 256 →
      d.mode < 256 →
      d.node < 256 →
      (demandBytes d).length = 7 ∧ parseDemand (demandBytes d) = some d) ∧
  (∀ (c : Claim),
      c.zone < 256 →
      c.power < 256 →
      c.need < 256 →
      (claimBytes c).length = 3 ∧ parseClaim (claimBytes c) = some c) ∧
  (∀ (l : LevelStatus),
      l.side < 256 →
      l.mode < 256 →
      -32768 ≤ l.error →
      l.error ≤ 32767 →
      -32768 ≤ l.duty →
      l.duty ≤ 32767 →
      (levelStatusBytes l).length = 8 ∧ parseLevelStatus (levelStatusBytes l) = some l) ∧
  (∀ (f : FeedPart) (conveyor : Nat),
      f.side < 256 →
      f.mode < 256 →
      f.level < 65536 →
      conveyor < 65536 →
      (feedStatusBytes f conveyor).length = 8 ∧ parseFeedStatus (feedStatusBytes f conveyor) = some f)

/-- The check of a frame is the remainder of its bits followed by sixteen 0 bits, under the generator x^16 + x^15 +
    x^2 + 1 with the register starting at 0. For every sequence of bits, running the register over the bits followed
    by the sixteen check bits, most significant first, leaves 0. -/
def Obligations.CheckDividesFrame : Prop :=
  ∀ (bits : List Bool),
      (bits ++ bitsOf 16 (checkOf bits).toNat).foldl checkStep 0 = 0

/-- In every state, whatever the node state and the link state, the ALERT line is asserted if and only if the reset
    line is released and some source is present and enabled. It is a function of the present set and the mask, so it
    follows every change of either at once. While the reset line is asserted it is released; and after POWER_UP and
    after WARM_RESET every mask is clear and it is released. -/
def Obligations.AlertLineFollowsSources : Prop :=
  (∀ (s : State),
      alertLine s = true ↔ s.resetLine = false ∧ ∃ n : Fin 16, hasBit s.alr.present n.val = true ∧
          hasBit s.alr.mask n.val = true) ∧
  (∀ (s : State) (pins : StrapPins),
      ∃ t, exec (.powerUp pins) s = .next t ∧ t.alr.mask = 0 ∧ alertLine t = false) ∧
  (∀ (s : State) (pins : StrapPins),
      ∃ t, exec (.warmReset pins) s = .next t ∧ t.alr.mask = 0 ∧ alertLine t = false)

/-- POWER_UP runs from every state. CFG: SETUP, the straps the pins show (a fourth code as not fitted), working and
    committed items at their defaults, valid flag clear, check value 0, heat mode OFF, setpoints 140, feed setpoint
    500, extension 0, width 2500 and centre -1250. The ring is empty with next_seq 0 and job number 0, the counters
    are 0 with selection none, every source is inhibited, the memory check is clear, the peer table is empty, travel
    UNKNOWN, the node time count 0; heater, GSU, LVC, FDC, MSI, RDU and LNK hold their power-up values. Source 12 is
    present for a fourth code, source 1 for an asserted HALT input, whose level stands. The model's own choices in
    this: the HALT pin keeps its level, the reset line is released and the paddle open (log 5); the straps kept before
    a commit are BAY 0 and not fitted (log 17); the stop-time mark is 0 (log 22); no latest offer is held (log 13); no
    zone is marked rejoining (log 47) and no feed level is judged (log 35); the readings of the straps and the waiting
    commands go on (logs 4, 3); a DEMAND is already in slot P and the line not known to be idle (log 6). -/
def Obligations.PowerUpState : Prop :=
  ∀ (s : State) (pins : StrapPins),
      ∃ t, exec (.powerUp pins) s = .next t ∧
      t.cfg = { node := .setup,
                straps := { bay := pins.bay, lev := fittedSide pins.lev, feed := fittedSide pins.feed,
                            ext := pins.ext },
                working := defaultItems, committed := defaultItems, keptStraps := openStraps, valid := false, check :=
                    0,
                heatMode := .off, setpoints := #v[140, 140, 140, 140], feedSetpoint := 500, ext := 0, width := 2500,
                centre := -1250 } ∧
      t.now = 0 ∧ t.resetLine = false ∧ t.pins = pins ∧ t.strapReadings = s.strapReadings ∧ t.haltInput = s.haltInput ∧
          t.pending = s.pending ∧
      t.ring = { slots := [], nextSeq := 0, held := 0, job := 0, overwritten := 0 } ∧
      (∀ n, t.counter n = { selection := 0, value := 0, threshold := 0, capture := none }) ∧
      t.mck = { capture := none, pending := false, overflow := false, armed := false } ∧
      (∀ a, t.entry a = Entry.empty) ∧ t.trv.state = .unknown ∧ t.trv = Trv.reset ∧ t.zht = Zht.reset 0 ∧
      t.gsu = Gsu.reset 0 ∧ t.lvc = Lvc.reset 0 Gains.default ∧ t.fdc = Fdc.reset 0 false ∧ t.msi = Msi.reset ∧
      t.rdu = Rdu.reset ∧ t.lnk = Lnk.reset ∧
      t.alr = { mask := 0, present := (if fourthCode pins then AlertSource.conflict.mask else 0) |||
                                      (if s.haltInput then AlertSource.haltInput.mask else 0) }

/-- RESET_LINE_ASSERTED runs from every state: every element is off with its low-current count at 0 and the own draw
    is 0; the valve output and the slew state are 0 and a jog has ended; conveyor and auger are at 0; slots and lists
    are empty, no frame is on the line and the line is not known to be idle (the model's choice, log 6); the ALERT
    line is released. The other fields of these blocks stand, the zones' states and the claim among them, and every
    other block stands, the travel tracker among them, until the warm reset (the model's reading, log 25). -/
def Obligations.ResetLineStopsOutputs : Prop :=
  ∀ (s : State),
      ∃ t, exec .resetLineAsserted s = .next t ∧ t.resetLine = true ∧ alertLine t = false ∧
      (∀ z, t.zone z = { s.zone z with element := false, lowCount := 0 }) ∧
      t.zht = { s.zht with zones := t.zht.zones } ∧ t.gsu = { s.gsu with ownDraw := 0 } ∧
      t.lvc = { s.lvc with output := 0, slew := 0, jog := none } ∧ t.fdc = { s.fdc with conveyor := 0, auger := 0 } ∧
      t.lnk = { s.lnk with slotU := none, slotP := none, slotB := none, uList := [], pList := [], sending := none,
                           lineIdle := false } ∧
      KeepsAllBut [.resetLine, .zht, .gsu, .lvc, .fdc, .lnk] s t

/-- WARM_RESET runs from every state. If the valid flag is set and the check value of the retained items under the new
    strap reading is the stored one, the committed configuration and the run settings stand, width and centre are
    formed with extension 0, and the node is RUN; with the HALT input asserted it is HALT at once, every element off.
    Otherwise the items are at their defaults, valid clear, check 0, heat mode OFF, the node in SETUP and source 12
    present. In each case every block has its warm-reset values, the masks are clear, the ring, the node time count
    and the HALT level are kept, and a DEMAND showing the state waits in slot P; with the HALT input asserted slot P
    holds that of RUN, and that of HALT waits behind it. The need is the cold-lane bonus (item 18) while MSI's flag is
    set and otherwise 0, no zone being WANT (4.2). The model's own choices in this: that DEMAND has moved into the
    empty slot at once, and the line is not known to be idle (log 6); of a sound configuration the working items stand
    as they were (log 41), of a damaged one the zone setpoints and the kept strap values (log 60); the paddle contact
    keeps its level (log 5); the stop-time mark is this moment and bay travel none (log 22); the latest offer is none
    (log 13), no zone is marked rejoining (log 47) and no feed level is judged (log 35). The kept PTB and TRV timers
    follow the manual's 'from power-up'. -/
def Obligations.WarmResetOfSoundAndDamaged : Prop :=
  (∀ (s : State) (pins : StrapPins),
      s.cfg.valid = true →
      checkValue s.cfg.committed (readStraps pins) = s.cfg.check →
      s.haltInput = false →
      ∃ t, exec (.warmReset pins) s = .next t ∧
      t.cfg = ({ s.cfg with node := .run, straps := readStraps pins, ext := 0 } : Cfg).measured ∧
      t.zht = { Zht.reset s.now with standbySince := if s.cfg.heatMode = .on then some s.now else none } ∧
      t.lvc = Lvc.reset s.now (gainsOf s.cfg.committed) ∧
      t.alr = { present := if fourthCode pins then AlertSource.conflict.mask else 0, mask := 0 } ∧
      t.gsu = { Gsu.reset s.now with need := if s.msi.lastCold then min 255 (s.item 18).toNat else 0,
                                     reported := reportNow t } ∧
      t.lnk = { Lnk.reset with slotP := some { dst := 15, tag := 0, body := .demand (demandNow t), resets := false } } ∧
      t.resetLine = false ∧ t.pins = pins ∧ (∀ a, t.entry a = Entry.empty) ∧ t.ptb.scanDue = s.ptb.scanDue ∧
      t.trv = { s.trv with
        last := s.trv.last.map fun f => { f with seq := none, time := none }, state := .unknown, motion := [],
        bayTravel := none, stopMs := 0, stopMark := s.now } ∧
      t.msi = { s.msi with
        lanes := Vector.replicate 12 Lane.empty, sweepDue := s.now + 300,
        flags := if s.msi.accumulating then bit IntervalFlag.restart.position else 0 } ∧
      t.fdc = Fdc.reset s.now s.fdc.paddleClosed ∧ t.rdu = Rdu.reset ∧ t.mck = Mck.reset ∧ t.evc = Evc.reset ∧
      KeepsAllBut [.resetLine, .pins, .cfg, .lnk, .ptb, .trv, .zht, .gsu, .lvc, .fdc, .msi, .rdu, .mck, .evc,
          .alr] s t) ∧
  (∀ (s : State) (pins : StrapPins),
      s.cfg.valid = false ∨ checkValue s.cfg.committed (readStraps pins) ≠ s.cfg.check →
      ∃ t, exec (.warmReset pins) s = .next t ∧
      t.cfg = ({ s.cfg with
        node := .setup, straps := readStraps pins, ext := 0, working := defaultItems, committed := defaultItems,
        valid := false, check := 0, heatMode := .off } : Cfg).measured ∧
      t.zht = Zht.reset s.now ∧ t.lvc = Lvc.reset s.now Gains.default ∧
      t.alr = { present := AlertSource.conflict.mask ||| (if s.haltInput then AlertSource.haltInput.mask else 0),
                mask := 0 } ∧
      t.gsu = { Gsu.reset s.now with need := if s.msi.lastCold then 20 else 0, reported := reportNow t } ∧
      t.lnk = { Lnk.reset with slotP := some { dst := 15, tag := 0, body := .demand (demandNow t), resets := false } } ∧
      t.resetLine = false ∧ t.pins = pins ∧ (∀ a, t.entry a = Entry.empty) ∧ t.ptb.scanDue = s.ptb.scanDue ∧
      t.trv = { s.trv with
        last := s.trv.last.map fun f => { f with seq := none, time := none }, state := .unknown, motion := [],
        bayTravel := none, stopMs := 0, stopMark := s.now } ∧
      t.msi = { s.msi with
        lanes := Vector.replicate 12 Lane.empty, sweepDue := s.now + 300,
        flags := if s.msi.accumulating then bit IntervalFlag.restart.position else 0 } ∧
      t.fdc = Fdc.reset s.now s.fdc.paddleClosed ∧ t.rdu = Rdu.reset ∧ t.mck = Mck.reset ∧ t.evc = Evc.reset ∧
      KeepsAllBut [.resetLine, .pins, .cfg, .lnk, .ptb, .trv, .zht, .gsu, .lvc, .fdc, .msi, .rdu, .mck, .evc,
          .alr] s t) ∧
  (∀ (s : State) (pins : StrapPins),
      s.cfg.valid = true →
      checkValue s.cfg.committed (readStraps pins) = s.cfg.check →
      s.haltInput = true →
      ∃ t, exec (.warmReset pins) s = .next t ∧
      t.cfg = ({ s.cfg with node := .halt, straps := readStraps pins, ext := 0 } : Cfg).measured ∧
      t.zht = { Zht.reset s.now with standbySince := if s.cfg.heatMode = .on then some s.now else none } ∧
      t.gsu = { Gsu.reset s.now with need := if s.msi.lastCold then min 255 (s.item 18).toNat else 0,
                                     reported := reportNow t } ∧
      t.lnk = { Lnk.reset with
        slotP := some { dst := 15, tag := 0, body := .demand { demandNow t with node := nodeCode .run },
                        resets := false },
        pList := [{ dst := 15, tag := 0, body := .demand (demandNow t), resets := false }] } ∧
      t.lvc = Lvc.reset s.now (gainsOf s.cfg.committed) ∧
      t.alr = { present := AlertSource.haltInput.mask ||| (if fourthCode pins then AlertSource.conflict.mask else 0),
                 mask := 0 } ∧
      t.resetLine = false ∧ t.pins = pins ∧ (∀ a, t.entry a = Entry.empty) ∧ t.ptb.scanDue = s.ptb.scanDue ∧
      t.trv = { s.trv with
        last := s.trv.last.map fun f => { f with seq := none, time := none }, state := .unknown, motion := [],
        bayTravel := none, stopMs := 0, stopMark := s.now } ∧
      t.msi = { s.msi with
        lanes := Vector.replicate 12 Lane.empty, sweepDue := s.now + 300,
        flags := if s.msi.accumulating then bit IntervalFlag.restart.position else 0 } ∧
      t.fdc = Fdc.reset s.now s.fdc.paddleClosed ∧ t.rdu = Rdu.reset ∧ t.mck = Mck.reset ∧ t.evc = Evc.reset ∧
      KeepsAllBut [.resetLine, .pins, .cfg, .lnk, .ptb, .trv, .zht, .gsu, .lvc, .fdc, .msi, .rdu, .mck, .evc, .alr] s t)

/-- With the reset line released. In RUN (in a state obeying the valve and feed laws) the node is HALT after it: every
    element off, every zone not in FAULT OFF without a shed lock, the ready flag clear, the draw 0, the claim
    abandoned without a frame, levelling and feed OFF with all duties 0, a trial ended with reason HALT, heat mode and
    setpoints as they stood, source 1 present, one DEMAND of the new state queued, after the claim (the model's
    choice, logs 49 and 53), if the link is ACTIVE. In SETUP and HALT only source 1 becomes present.
    HALT_INPUT_RELEASED makes source 1 absent and leaves the node state. -/
def Obligations.HaltInputMovesRunToHalt : Prop :=
  (∀ (s : State),
      s.resetLine = false →
      s.cfg.node = .run →
      ValveLaw s →
      FeedLaw s →
      ∃ t, exec .haltInputAsserted s = .next t ∧ t.haltInput = true ∧ t.cfg = { s.cfg with node := .halt } ∧
      (∀ z, t.zone z = if (s.zone z).state = .fault then { s.zone z with element := false, lowCount := 0 }
        else { s.zone z with element := false, lowCount := 0, state := .off, shedLock := none }) ∧
      t.zht = { s.zht with zones := t.zht.zones, readyStart := none, ready := false } ∧
      t.gsu = { s.gsu with
        ownDraw := 0, claim := none, reported := t.gsu.reported, periodDue := t.gsu.periodDue } ∧
      t.lvc.mode = .off ∧ t.lvc.output = 0 ∧ t.lvc.slew = 0 ∧ t.lvc.trial = none ∧
      (∀ x ∈ s.lvc.trial, t.lvc.capture = some (captureOf .halt x s)) ∧
      (s.lvc.trial = none → t.lvc.capture = s.lvc.capture) ∧
      t.lvc.reference = s.lvc.reference ∧ t.lvc.offset = s.lvc.offset ∧ t.lvc.slope = s.lvc.slope ∧
      t.fdc.mode = .off ∧ t.fdc.conveyor = 0 ∧ t.fdc.auger = 0 ∧ t.fdc.starved = false ∧
      isPresent t .haltInput ∧ (s.active = true → DemandWaits t) ∧ OnlyBroadcasts s t ∧
      KeepsAllBut [.haltInput, .cfg, .zht, .gsu, .lvc, .fdc, .lnk, .alr] s t) ∧
  (∀ (s : State),
      s.resetLine = false →
      s.cfg.node ≠ .run →
      ∃ t, exec .haltInputAsserted s = .next t ∧ t.haltInput = true ∧
      t.alr = { s.alr with present := s.alr.present ||| AlertSource.haltInput.mask } ∧ OnlyAlerts s t ∧
      KeepsAllBut [.haltInput, .lnk, .alr] s t) ∧
  (∀ (s : State),
      s.resetLine = false →
      ∃ t, exec .haltInputReleased s = .next t ∧ t.haltInput = false ∧
      t.alr = { s.alr with present := s.alr.present &&& ~~~AlertSource.haltInput.mask } ∧
      KeepsAllBut [.haltInput, .alr] s t)

/-- With the reset line released, a reading e of 0..1000 on a bay with EXT fitted replaces e; the width becomes base
    width + (e x extension travel + 500) div 1000 in mm, and the centre x_in - width/2 on a left bay, x_in + width/2
    on a right bay, a half millimetre rounded away from zero. Nothing else changes. A flagged reading, one outside
    0..1000, and any reading on a bay without EXT change nothing. -/
def Obligations.ExtensionMovesWidthAndCentre : Prop :=
  (∀ (s : State) (e : Int),
      s.resetLine = false →
      s.cfg.straps.ext = true →
      0 ≤ e →
      e ≤ 1000 →
      ∃ t, exec (.extensionSensorArrival (some e)) s = .next t ∧
      t.cfg = { s.cfg with ext := e, width := t.cfg.width, centre := t.cfg.centre } ∧
      t.cfg.width = s.item 3 * 10 + (e * (s.item 4 * 10) + 500) / 1000 ∧
      (let twice := if s.item 1 = 2 then 2 * (s.item 2 * 10) + t.cfg.width else 2 * (s.item 2 * 10) - t.cfg.width;
       2 * t.cfg.centre = if twice % 2 = 0 then twice else twice + twice.sign) ∧
      KeepsAllBut [.cfg] s t) ∧
  (∀ (s : State) (e : Int),
      s.cfg.straps.ext = false ∨ e < 0 ∨ 1000 < e →
      exec (.extensionSensorArrival (some e)) s = .next s) ∧
  (∀ (s : State),
      exec (.extensionSensorArrival none) s = .next s)

/-- A taken NODE-RESET without payload queues its REPLY with outcome DONE and stands pending from that node time; any
    other length is REFUSED-FORMAT. While it is pending, every request of another station is discarded without reply
    or event, and only the requester's entry is written. NODE_RESET_TIMEOUT with one pending is the warm reset that
    reads the straps afresh, the levels the pins then have being a free value, whatever it is (log 4), taken with the
    node time at 100 ms after the request or later (a late expiry is taken when it comes, log 2); with none pending it
    does nothing. -/
def Obligations.NodeResetAnswersThenResets : Prop :=
  (∀ (s : State) (src : Addr) (tag : Byte),
      Takes s src [] →
      ∃ t, exec (.nodeReset src tag []) s = .next t ∧ Replied s t src tag .done .empty ∧
      TakenFrame [.lnk] .done src s t ∧ t.lnk.resetPending = some s.now ∧ t.lnk.tally = s.lnk.tally ∧
      t.lnk.listenUntil = s.lnk.listenUntil ∧ t.lnk.slotB = s.lnk.slotB ∧ QuietP s t) ∧
  (∀ (s : State) (src : Addr) (tag : Byte) (payload : List Byte),
      Takes s src payload →
      payload ≠ [] →
      ∃ t, exec (.nodeReset src tag payload) s = .next t ∧ Answered [] s t src tag .refusedFormat .empty) ∧
  (∀ (s : State) (src : Addr) (tag : Byte) (payload : List Byte) (c : Instr),
      requestOf c = some (src, tag, payload) →
      c.wellFormed = true →
      Hears s src payload →
      s.lnk.resetPending.isSome = true →
      ∃ t, exec c s = .next t ∧ t.ptb = (hear src s).ptb ∧ OnlyLine s t ∧ KeepsAllBut [.ptb, .lnk] s t) ∧
  (∀ (s : State) (since : Time),
      s.resetLine = false →
      s.lnk.resetPending = some since →
      ∃ t, exec .nodeResetTimeout s = .next t ∧
      exec (.warmReset (Config.strapLevels s.strapReadings))
        ((reach (since + 100) s).setStrapReadings (s.strapReadings + 1)) = .next t ∧
      t.lnk.resetPending = none) ∧
  (∀ (s : State),
      s.lnk.resetPending = none →
      exec .nodeResetTimeout s = .next s)

/-- In every node state (the gate passes), a taken IDENT-READ without payload is answered DONE, carrying part code 40,
    revision 1, the straps as last read, the node state, the valid flag, the stored check value (0 while the
    configuration is invalid, in a state obeying node control's law), the level of the HALT input, the heat mode, the
    width and the centre. It changes nothing else. A payload of any length but 0 is answered REFUSED-FORMAT. -/
def Obligations.IdentReadAnswersIdentity : Prop :=
  (∀ (s : State) (src : Addr) (tag : Byte),
      Takes s src [] →
      NodeLaw s →
      ∃ t, exec (.identRead src tag []) s = .next t ∧
      Answered [] s t src tag .done (.ident {
        part := 40, revision := 1, straps := s.cfg.straps, node := s.cfg.node,
        valid := s.cfg.valid, check := if s.cfg.valid then s.cfg.check else 0, halt := s.haltInput,
        heatMode := s.cfg.heatMode, width := s.cfg.width, centre := s.cfg.centre })) ∧
  (∀ (s : State) (src : Addr) (tag : Byte) (payload : List Byte),
      Takes s src payload →
      payload ≠ [] →
      ∃ t, exec (.identRead src tag payload) s = .next t ∧ Answered [] s t src tag .refusedFormat .empty)

/-- In SETUP a taken CONFIG-SET of item n in 1..44 stores its value, clamped to the item's range, into that working
    item and no other; the lower bound of item 31 is the working item 30, that of item 29 the larger of 20 and the
    working item 28 + 5. It is DONE, or CLAMPED if the value was moved, and carries the number and the value as
    stored. An item number outside 1..44 is UNKNOWN, another length REFUSED-FORMAT, any payload outside SETUP REFUSED-
    STATE, each changing nothing. The working items are the defaults after POWER_UP and after a WARM_RESET that enters
    SETUP. -/
def Obligations.ConfigSetStoresClampedItem : Prop :=
  (∀ (s : State) (src : Addr) (tag : Byte) (n hi lo : Byte) (least most stored : Int),
      Takes s src [n, hi, lo] →
      s.cfg.node = .setup →
      1 ≤ n.toNat →
      n.toNat ≤ 44 →
      least = (if n.toNat = 29 then max 20 (itemOf s.cfg.working 28 + 5) else if n.toNat = 31 then
          itemOf s.cfg.working 30
        else (itemTable.getD (n.toNat - 1) ⟨0, 0, 0⟩).lo) →
      most = (itemTable.getD (n.toNat - 1) ⟨0, 0, 0⟩).hi →
      stored = (if s16 hi lo < least then least else if most < s16 hi lo then most else s16 hi lo) →
      ∃ t, exec (.configSet src tag [n, hi, lo]) s = .next t ∧ t.cfg = { s.cfg with working := t.cfg.working } ∧
      itemOf t.cfg.working n.toNat = stored ∧
      (∀ m : Fin 45, 1 ≤ m.val → m.val ≠ n.toNat → itemOf t.cfg.working m.val = itemOf s.cfg.working m.val) ∧
      Answered [.cfg] s t src tag (if stored = s16 hi lo then .done else .clamped) (.item n.toNat stored)) ∧
  (∀ (s : State) (src : Addr) (tag : Byte) (n hi lo : Byte),
      Takes s src [n, hi, lo] →
      s.cfg.node = .setup →
      n = 0 ∨ 44 < n.toNat →
      ∃ t, exec (.configSet src tag [n, hi, lo]) s = .next t ∧ Answered [] s t src tag .unknown .empty) ∧
  (∀ (s : State) (src : Addr) (tag : Byte) (payload : List Byte),
      Takes s src payload →
      s.cfg.node = .setup →
      payload.length ≠ 3 →
      ∃ t, exec (.configSet src tag payload) s = .next t ∧ Answered [] s t src tag .refusedFormat .empty) ∧
  (∀ (s : State) (src : Addr) (tag : Byte) (payload : List Byte),
      Takes s src payload →
      s.cfg.node ≠ .setup →
      ∃ t, exec (.configSet src tag payload) s = .next t ∧ Answered [] s t src tag .refusedState .empty) ∧
  (∀ (s : State) (pins : StrapPins),
      ∃ t, exec (.powerUp pins) s = .next t ∧ t.cfg.working = itemTable.map (·.default)) ∧
  (∀ (s : State) (pins : StrapPins),
      s.cfg.valid = false ∨ checkValue s.cfg.committed (readStraps pins) ≠ s.cfg.check →
      ∃ t, exec (.warmReset pins) s = .next t ∧ t.cfg.node = .setup ∧ t.cfg.working = itemTable.map (·.default))

/-- In SETUP a taken CONFIG-COMMIT without payload checks the working items in the manual's order and at the first
    failing check answers REFUSED-CONFIG with the item shown, changing nothing. If all hold, the working items are the
    committed items, the present straps are kept with them, the check value is 65535 minus (the items' sum, each
    modulo 65536, plus the strap code) modulo 65536, the valid flag is set, the heat mode is OFF, the setpoints are
    items 19 to 22 and the feed setpoint item 34, width and centre are computed, the node is RUN (HALT at once with
    the HALT input asserted), and the REPLY is DONE with the check value. The active gain set is the committed one.
    The REPLY stands before the ALERT frames that events of the commit cause (the model's choice, log 11). Where a job
    is open and TRV's index exceeds the open index, RUN entry closes the open interval at once: one record more, with
    the old index and the span of R136, and the interval opened has TRV's index, no flag and empty lanes; the write
    wakes the waiting channels, and an empty slot B takes at once the frame of the lowest ready one, which steps
    (R162), before event 19 is counted (log 56); the last-record-cold flag follows the cold lanes, and where it
    changes the need is formed anew (log 45). The DEMAND of RUN, with the need from before the close, stands before
    the COLD-SPOT of the close (slot P first, then its list, where a frame replaces one of its class, R187; the
    model's choice, log 46); the stop time runs on from this mark (the model's own, log 22). With the HALT input
    asserted the close comes before HALT entry (the model's choice, log 48): the DEMAND of HALT, with the need after
    the close, stands last, or in the place of RUN's where that waits in the list; elements are off, no claim is in
    flight. Another length is REFUSED-FORMAT; outside SETUP it is REFUSED-STATE. -/
def Obligations.ConfigCommitChecksThenRuns : Prop :=
  (∀ (s : State) (src : Addr) (tag : Byte) (n : Nat),
      Takes s src [] →
      s.cfg.node = .setup →
      (let w := itemOf s.cfg.working;
        if w 6 ≤ w 5 then some 6 else if w 29 < w 28 + 5 then some 29 else if w 31 < w 30 then some 31
        else if w 1 = 0 then some 1 else if s.cfg.straps.ext = true ∧ w 4 ≤ 0 then some 4 else none) = some n →
      ∃ t, exec (.configCommit src tag []) s = .next t ∧ Answered [] s t src tag .refusedConfig (.failing n)) ∧
  (∀ (s : State) (src : Addr) (tag : Byte),
      Takes s src [] →
      s.cfg.node = .setup →
      (let w := itemOf s.cfg.working;
        if w 6 ≤ w 5 then some 6 else if w 29 < w 28 + 5 then some 29 else if w 31 < w 30 then some 31
        else if w 1 = 0 then some 1 else if s.cfg.straps.ext = true ∧ w 4 ≤ 0 then some 4 else none) = none →
      s.haltInput = false →
      s.gsu.reported.node = .setup →
      s.msi.accumulating = false ∨ s.trv.index ≤ s.msi.openIndex →
      ∃ t, exec (.configCommit src tag []) s = .next t ∧
      t.cfg = ({ s.cfg with
        node := .run, committed := s.cfg.working, keptStraps := s.cfg.straps, check := t.cfg.check, valid := true,
        heatMode := .off, feedSetpoint := itemOf s.cfg.working 34,
        setpoints := #v[itemOf s.cfg.working 19, itemOf s.cfg.working 20, itemOf s.cfg.working 21,
          itemOf s.cfg.working 22] } : Cfg).measured ∧
      t.cfg.check.toNat = 65535 - ((s.cfg.working.toList.map fun v => (v % 65536).toNat).sum +
        (s.cfg.straps.bay.val + 8 * strapCode s.cfg.straps.lev + 32 * strapCode s.cfg.straps.feed +
          128 * (if s.cfg.straps.ext then 1 else 0))) % 65536 ∧
      t.lvc = { s.lvc with gains := gainsOf s.cfg.working } ∧ DemandWaits t ∧
      Replied s t src tag .done (.checkValue t.cfg.check) ∧ TakenFrame [.lnk, .cfg, .lvc, .gsu] .done src s t ∧
      LinkStands s t) ∧
  (∀ (s : State) (src : Addr) (tag : Byte) (w : ColdSpot) (p v : State),
      Takes s src [] →
      s.cfg.node = .setup →
      (let w := itemOf s.cfg.working;
        if w 6 ≤ w 5 then some 6 else if w 29 < w 28 + 5 then some 29 else if w 31 < w 30 then some 31
        else if w 1 = 0 then some 1 else if s.cfg.straps.ext = true ∧ w 4 ≤ 0 then some 4 else none) = none →
      s.haltInput = false →
      w = coldSpotNow (s.setCfg { s.cfg with committed := s.cfg.working }) →
      s.gsu.reported.node = .setup →
      s.msi.accumulating = true →
      s.msi.openIndex < s.trv.index →
      s.trv.index ≤ max24 →
      p = s.setCfg { s.cfg.commit with node := .run } →
      v = ringWrite (buildRecord (min 255 (s.trv.index - s.msi.openIndex)) (addStopTime (judgeJobTime p)))
        (clearStopTime (addStopTime (judgeJobTime p))) →
      ∃ t, exec (.configCommit src tag []) s = .next t ∧
      t.cfg = ({ s.cfg with
        node := .run, committed := s.cfg.working, keptStraps := s.cfg.straps, check := t.cfg.check, valid := true,
        heatMode := .off, feedSetpoint := itemOf s.cfg.working 34,
        setpoints := #v[itemOf s.cfg.working 19, itemOf s.cfg.working 20, itemOf s.cfg.working 21,
          itemOf s.cfg.working 22] } : Cfg).measured ∧
      t.lvc = { s.lvc with gains := gainsOf s.cfg.working } ∧
      t.ring.nextSeq = s.ring.nextSeq + 1 ∧ t.ring.job = s.ring.job ∧
      (seq24 ((t.ring.read (slotOf s.ring.nextSeq)).bytes.getD 3 0)
          ((t.ring.read (slotOf s.ring.nextSeq)).bytes.getD 4 0)
        ((t.ring.read (slotOf s.ring.nextSeq)).bytes.getD 5 0)).toNat = s.msi.openIndex ∧
      ((t.ring.read (slotOf s.ring.nextSeq)).bytes.getD 6 0).toNat = min 255 (s.trv.index - s.msi.openIndex) ∧
      t.msi.openIndex = s.trv.index ∧ t.msi.flags = 0 ∧ t.msi.accumulating = true ∧
      t.msi.lanes = Vector.replicate 12 Lane.empty ∧
      t.msi.lastCold = decide (w.cold ≠ 0) ∧ t.trv = { s.trv with stopMs := 0, stopMark := s.now } ∧
      t.gsu.need = (if t.msi.lastCold = s.msi.lastCold then s.gsu.need else needNow t) ∧
      WaitsInP t (.demand { demandNow t with need := s.gsu.need }) ∧ (w.cold ≠ 0 → WaitsInP t (.coldSpot w)) ∧
      (s.lnk.slotP = none → s.lnk.pList = [] →
        t.lnk.slotP = some { dst := 15, tag := 0, body := .demand { demandNow t with need := s.gsu.need },
                             resets := false } ∧
        t.lnk.pList = if w.cold = 0 then [] else [{ dst := 15, tag := 0, body := .coldSpot w, resets := false }]) ∧
      (s.lnk.slotP.isSome = true → t.lnk.slotP = s.lnk.slotP ∧
        t.lnk.pList = (if w.cold = 0 then id else placeP { dst := 15, tag := 0, body := .coldSpot w, resets := false })
          (placeP { dst := 15, tag := 0, body := .demand { demandNow t with need := s.gsu.need },
                    resets := false } s.lnk.pList)) ∧
      Replied s t src tag .done (.checkValue t.cfg.check) ∧
      TakenFrame [.lnk, .cfg, .lvc, .gsu, .trv, .msi, .ring, .rdu, .mck, .evc, .alr] .done src s t ∧
      (if s.lnk.slotB = none then ArbiterFills v t else t.lnk.slotB = s.lnk.slotB ∧ t.rdu = v.rdu ∧ t.mck = v.mck) ∧
      t.evc.counters = countAll .requestTaken src 1 s.now s.trv.index (countAll .recordClosed 0 1 s.now s.trv.index
        (if s.lnk.slotB = none then afterStep v else v).evc.counters) ∧
      t.ring = v.ring ∧ LinkRunsOn s t) ∧
  (∀ (s : State) (src : Addr) (tag : Byte),
      Takes s src [] →
      s.cfg.node = .setup →
      (let w := itemOf s.cfg.working;
        if w 6 ≤ w 5 then some 6 else if w 29 < w 28 + 5 then some 29 else if w 31 < w 30 then some 31
        else if w 1 = 0 then some 1 else if s.cfg.straps.ext = true ∧ w 4 ≤ 0 then some 4 else none) = none →
      s.haltInput = true →
      ∃ t, exec (.configCommit src tag []) s = .next t ∧
      t.cfg = ({ s.cfg with
        node := .halt, committed := s.cfg.working, keptStraps := s.cfg.straps, check := t.cfg.check, valid := true,
        heatMode := .off, feedSetpoint := itemOf s.cfg.working 34,
        setpoints := #v[itemOf s.cfg.working 19, itemOf s.cfg.working 20, itemOf s.cfg.working 21,
          itemOf s.cfg.working 22] } : Cfg).measured ∧
      (∀ z, (t.zone z).element = false) ∧ t.lvc.mode = .off ∧ t.fdc.mode = .off ∧
      t.gsu.claim = none ∧ t.gsu.ownDraw = 0 ∧ DemandWaits t ∧
      Replied s t src tag .done (.checkValue t.cfg.check)) ∧
  (∀ (s : State) (src : Addr) (tag : Byte) (w : ColdSpot) (p v : State),
      Takes s src [] →
      s.cfg.node = .setup →
      (let w := itemOf s.cfg.working;
        if w 6 ≤ w 5 then some 6 else if w 29 < w 28 + 5 then some 29 else if w 31 < w 30 then some 31
        else if w 1 = 0 then some 1 else if s.cfg.straps.ext = true ∧ w 4 ≤ 0 then some 4 else none) = none →
      s.haltInput = true →
      w = coldSpotNow (s.setCfg { s.cfg with committed := s.cfg.working }) →
      s.gsu.reported.node = .setup →
      s.msi.accumulating = true →
      s.msi.openIndex < s.trv.index →
      s.trv.index ≤ max24 →
      p = s.setCfg { s.cfg.commit with node := .run } →
      v = ringWrite (buildRecord (min 255 (s.trv.index - s.msi.openIndex)) (addStopTime (judgeJobTime p)))
        (clearStopTime (addStopTime (judgeJobTime p))) →
      ∃ t, exec (.configCommit src tag []) s = .next t ∧ t.cfg.node = .halt ∧
      t.ring.nextSeq = s.ring.nextSeq + 1 ∧ t.ring.job = s.ring.job ∧
      (seq24 ((t.ring.read (slotOf s.ring.nextSeq)).bytes.getD 3 0)
          ((t.ring.read (slotOf s.ring.nextSeq)).bytes.getD 4 0)
        ((t.ring.read (slotOf s.ring.nextSeq)).bytes.getD 5 0)).toNat = s.msi.openIndex ∧
      ((t.ring.read (slotOf s.ring.nextSeq)).bytes.getD 6 0).toNat = min 255 (s.trv.index - s.msi.openIndex) ∧
      t.msi.openIndex = s.trv.index ∧ t.msi.flags = 0 ∧ t.msi.accumulating = true ∧
      t.msi.lanes = Vector.replicate 12 Lane.empty ∧
      t.msi.lastCold = decide (w.cold ≠ 0) ∧ t.trv = { s.trv with stopMs := 0, stopMark := s.now } ∧
      t.gsu.need = (if t.msi.lastCold = s.msi.lastCold then s.gsu.need
        else needNow ((s.setCfg { t.cfg with node := .run }).setMsi { s.msi with lastCold := t.msi.lastCold })) ∧
      DemandWaits t ∧ (w.cold ≠ 0 → WaitsInP t (.coldSpot w)) ∧
      (s.lnk.slotP = none → s.lnk.pList = [] →
        t.lnk.slotP = some { dst := 15, tag := 0, body := .demand (demandNow (s.setCfg { t.cfg with node := .run })),
                             resets := false } ∧
        t.lnk.pList = (if w.cold = 0 then [] else [{ dst := 15, tag := 0, body := .coldSpot w,
                                                     resets := false }]) ++ [{ dst := 15, tag := 0, body := .demand (demandNow t), resets := false }]) ∧
      (s.lnk.slotP.isSome = true → t.lnk.slotP = s.lnk.slotP ∧
        t.lnk.pList = placeP { dst := 15, tag := 0, body := .demand (demandNow t), resets := false }
          ((if w.cold = 0 then id else placeP { dst := 15, tag := 0, body := .coldSpot w, resets := false })
            (placeP { dst := 15, tag := 0, body := .demand (demandNow (s.setCfg { t.cfg with node := .run })),
                      resets := false } s.lnk.pList))) ∧
      Replied s t src tag .done (.checkValue t.cfg.check) ∧
      TakenFrame [.lnk, .cfg, .zht, .gsu, .lvc, .fdc, .trv, .msi, .ring, .rdu, .mck, .evc, .alr] .done src s t ∧
      (if s.lnk.slotB = none then ArbiterFills v t else t.lnk.slotB = s.lnk.slotB ∧ t.rdu = v.rdu ∧ t.mck = v.mck) ∧
      t.evc.counters = countAll .requestTaken src 1 s.now s.trv.index (countAll .recordClosed 0 1 s.now s.trv.index
        (if s.lnk.slotB = none then afterStep v else v).evc.counters) ∧
      t.ring = v.ring ∧ LinkRunsOn s t) ∧
  (∀ (s : State) (src : Addr) (tag : Byte) (payload : List Byte),
      Takes s src payload →
      s.cfg.node = .setup →
      payload ≠ [] →
      ∃ t, exec (.configCommit src tag payload) s = .next t ∧ Answered [] s t src tag .refusedFormat .empty) ∧
  (∀ (s : State) (src : Addr) (tag : Byte) (payload : List Byte),
      Takes s src payload →
      s.cfg.node ≠ .setup →
      ∃ t, exec (.configCommit src tag payload) s = .next t ∧ Answered [] s t src tag .refusedState .empty)

/-- In HALT a taken NODE-RESUME without payload, with the HALT input released, is answered DONE: the node is RUN, the
    heat mode, the zones, levelling and feed stand as they are, and a DEMAND showing RUN waits. With the input
    asserted it is REFUSED-STATE; another length is REFUSED-FORMAT; neither changes anything. -/
def Obligations.NodeResumeLeavesHalt : Prop :=
  (∀ (s : State) (src : Addr) (tag : Byte),
      Takes s src [] →
      s.cfg.node = .halt →
      s.haltInput = false →
      s.gsu.reported.node = .halt →
      ∃ t, exec (.nodeResume src tag []) s = .next t ∧ t.cfg = { s.cfg with node := .run } ∧ DemandWaits t ∧
      t.gsu = { s.gsu with reported := reportNow t, periodDue := s.now + 500 } ∧ Replied s t src tag .done .empty ∧
      TakenFrame [.lnk, .cfg, .gsu] .done src s t ∧ LinkStands s t) ∧
  (∀ (s : State) (src : Addr) (tag : Byte),
      Takes s src [] →
      s.cfg.node = .halt →
      s.haltInput = true →
      ∃ t, exec (.nodeResume src tag []) s = .next t ∧ Answered [] s t src tag .refusedState .empty) ∧
  (∀ (s : State) (src : Addr) (tag : Byte) (payload : List Byte),
      Takes s src payload →
      s.cfg.node = .halt →
      payload ≠ [] →
      ∃ t, exec (.nodeResume src tag payload) s = .next t ∧ Answered [] s t src tag .refusedFormat .empty)

/-- For every request row and every node state in which the gate's table refuses it (the JOB rows by the sub-operation
    byte they carry), a request that is taken is answered REFUSED-STATE with no content (LEVEL-ZERO's too, the model's
    choice, log 51), whatever its payload, and changes nothing but the requester's entry, event 6 and the U list. The
    classes 32 to 48 are the seventeen requests in the order of R190's table, and 49 to 55 are no request of the
    table. -/
def Obligations.GateRefusesOutsideItsStates : Prop :=
  (∀ (s : State) (src : Addr) (tag : Byte) (payload : List Byte) (c : Instr),
      requestOf c = some (src, tag, payload) →
      Takes s src payload →
      gatePasses c s.cfg.node = false →
      ∃ t, exec c s = .next t ∧ Answered [] s t src tag .refusedState .empty) ∧
  ((List.range 24).map (fun k => requestOfClass (32 + k)) =
      [some .configSet, some .configCommit, some .nodeResume, some .nodeReset, some .identRead, some .heatSet,
       some .levelMode, some .levelSet, some .levelZero, some .levelGains, some .levelTrial, some .feed, some .job,
       some .readout, some .counter, some .alert, some .check] ++ List.replicate 7 none)

/-- With the reset line released, n the node time at the scan (log 2) and the timer running on by 100 ms from its last
    moment (log 31). Each entry 0..14 loses its heating part when older than 5000 ms, its claim part when older than
    60 ms, its levelling and feed parts when older than 300 ms, its travel part when older than 500 ms, and becomes
    silent if heard with its last frame older than 5000 ms; entry 15 stands; the GSU's view shows the same claims
    (that the scan prunes it is the model's choice, log 33); source 8 is present if it was or a peer's heating part is
    lost, and with one lost source 3 is judged after the last entry (log 54). If no peer's heating part is lost and no
    entry becomes silent, only the entries, the timer and the view change. A channel in HEADERS, RECORDS or WAIT whose
    owner's entry becomes silent (one silent before loses none, log 32) is CLOSING with OWNER-LOST, its cyclic flag
    clear, where slot B is occupied or the link LISTEN-ONLY. With slot B empty in ACTIVE and no frame ready, the CLOSE
    of the lowest channel of the lowest such address moves into slot B at once (log 54), that channel IDLE without
    owner, and the others are CLOSING. Where no such owner becomes silent no channel changes. -/
def Obligations.AgeingScanDropsOldParts : Prop :=
  (∀ (s : State) (n : Time),
      s.resetLine = false →
      n = (reach s.ptb.scanDue s).now →
      (∀ a : Addr, a.val < 15 → (s.entry a).silent = true ∨ (s.entry a).quiet n = false) →
      (∀ a : Addr, a.val < 15 → a ≠ s.self → heatingLost n (s.entry a) = false) →
      ∃ t, exec .peerAgeingScan s = .next t ∧ t.now = n ∧ t.ptb.scanDue = s.ptb.scanDue + 100 ∧
      (∀ a : Addr, a.val < 15 → t.entry a = { s.entry a with
        heating := keepYoung n 5000 (s.entry a).heating, claim := keepYoung n 60 (s.entry a).claim,
        level := keepYoung n 300 (s.entry a).level, feed := keepYoung n 300 (s.entry a).feed,
        travel := keepYoung n 500 (s.entry a).travel,
        silent := (s.entry a).silent || ((s.entry a).heard && (s.entry a).lastTime.any fun x => decide
            (5000 < age n x)) }) ∧
      t.entry 15 = s.entry 15 ∧ t.gsu = { s.gsu with view := t.gsu.view } ∧
      (∀ a : Addr, claimInView t a = claimInView (s.setNow n) a) ∧ KeepsAllBut [.now, .ptb, .gsu] s t) ∧
  (∀ (s : State) (n : Time) (peer : Addr) (d : Demand) (since : Time),
      s.resetLine = false →
      n = (reach s.ptb.scanDue s).now →
      s.lnk.slotB.isSome = true →
      peer.val < 15 →
      peer ≠ s.self →
      (s.entry peer).heating = some (d, since) →
      5000 < age n since →
      ∃ t, exec .peerAgeingScan s = .next t ∧ (t.entry peer).heating = none ∧ isPresent t .peerLost ∧
      (isPresent t .overload ↔ overloaded t = true) ∧ OnlyAlerts s t ∧
      KeepsAllBut [.now, .ptb, .gsu, .alr, .lnk, .rdu] s t) ∧
  (∀ (s : State) (n : Time) (owner : Addr) (since : Time) (k : Fin 4),
      s.resetLine = false →
      n = (reach s.ptb.scanDue s).now →
      s.lnk.slotB.isSome = true ∨ s.active = false →
      owner.val < 15 →
      (s.entry owner).heard = true →
      (s.entry owner).silent = false →
      (s.entry owner).lastTime = some since →
      5000 < age n since →
      (s.channel k).owner = some owner →
      (s.channel k).state = .headers ∨ (s.channel k).state = .records ∨ (s.channel k).state = .wait →
      ∃ t, exec .peerAgeingScan s = .next t ∧ (t.entry owner).silent = true ∧
      t.channel k = { s.channel k with state := .closing, status := .ownerLost, cyclic := false } ∧
      KeepsAllBut [.now, .ptb, .gsu, .alr, .lnk, .rdu] s t) ∧
  (∀ (s : State) (n : Time),
      s.resetLine = false →
      n = (reach s.ptb.scanDue s).now →
      ∃ t, exec .peerAgeingScan s = .next t ∧ t.now = n ∧ t.ptb.scanDue = s.ptb.scanDue + 100 ∧
      (∀ a : Addr, a.val < 15 → t.entry a = { s.entry a with
        heating := keepYoung n 5000 (s.entry a).heating, claim := keepYoung n 60 (s.entry a).claim,
        level := keepYoung n 300 (s.entry a).level, feed := keepYoung n 300 (s.entry a).feed,
        travel := keepYoung n 500 (s.entry a).travel,
        silent := (s.entry a).silent || ((s.entry a).heard && (s.entry a).lastTime.any fun x => decide
            (5000 < age n x)) }) ∧
      t.entry 15 = s.entry 15 ∧ t.gsu = { s.gsu with view := t.gsu.view } ∧
      (∀ a : Addr, claimInView t a = claimInView (s.setNow n) a) ∧
      (isPresent t .peerLost ↔ isPresent s .peerLost ∨ ∃ a : Addr, a.val < 15 ∧ a ≠ s.self ∧
          heatingLost n (s.entry a) = true) ∧
      ((∃ a : Addr, a.val < 15 ∧ a ≠ s.self ∧ heatingLost n (s.entry a) = true) →
          (isPresent t .overload ↔ overloaded t = true)) ∧
      LinkRunsOn s t ∧ QuietP s t ∧ KeepsAllBut [.now, .ptb, .gsu, .alr, .lnk, .rdu, .mck, .evc] s t) ∧
  (∀ (s : State) (n : Time),
      s.resetLine = false →
      n = (reach s.ptb.scanDue s).now →
      s.lnk.slotB.isSome = true ∨ s.active = false ∨ readyChannel s = none →
      (∀ k : Fin 4, Reading (s.channel k) → ∀ a ∈ (s.channel k).owner, a.val < 15 → (s.entry a).silent = true ∨
          (s.entry a).quiet n = false) →
      ∃ t, exec .peerAgeingScan s = .next t ∧ OnlyAlerts s t ∧ KeepsAllBut [.now, .ptb, .gsu, .alr, .lnk] s t) ∧
  (∀ (s : State) (n : Time) (owner : Addr) (k : Fin 4),
      s.resetLine = false →
      n = (reach s.ptb.scanDue s).now →
      s.lnk.slotB = none →
      s.active = true →
      readyChannel s = none →
      owner.val < 15 →
      (s.entry owner).silent = false →
      (s.entry owner).quiet n = true →
      (s.channel k).owner = some owner →
      (s.channel k).state = .wait →
      (∀ m : Fin 4, (s.channel m).state = .wait → ∀ a ∈ (s.channel m).owner, (s.entry a).silent = false →
          (s.entry a).quiet n = true →
          owner < a ∨ (owner = a ∧ k ≤ m)) →
      ∃ t, exec .peerAgeingScan s = .next t ∧
      t.lnk.slotB = some {
        dst := owner, tag := BitVec.ofNat 8 k, resets := false,
        body := .close .ownerLost (s.channel k).recordsSent (s.channel k).voidsSent (s.channel k).remaining } ∧
      t.channel k = { s.channel k with state := .idle, owner := none, status := .ownerLost, cyclic := false } ∧
      (∀ m, m ≠ k → t.channel m = if (s.channel m).state = .wait ∧ ((s.channel m).owner.any fun a =>
          decide (a.val < 15) && !(s.entry a).silent && (s.entry a).quiet n) = true
        then { s.channel m with state := .closing, status := .ownerLost, cyclic := false } else s.channel m) ∧
      LinkRunsOn s t ∧ OnlyAlertsJoin s t ∧ QuietP s t ∧ KeepsAllBut [.now, .ptb, .gsu, .alr, .lnk, .rdu] s t)

/-- With the reset line released, u the state at the expiry, the node time carried there (log 2) and the timer running
    on by 100 ms from its last moment (log 31). If travel is not UNKNOWN and no frame has been accepted for more than
    500 ms, travel becomes UNKNOWN, the motion list empties, event 24 is counted with the source of the last accepted
    frame (15 if none), TRAVEL_LOST is raised on the open interval of an open job, and the time of a STOPPED state of
    an open job is added to the stop time from the model's mark, which is set to this moment (log 22). All this is so
    whatever levelling, feed and standby then do: a node in GRADE or SLOPE is in HOLD with reason TRAVEL, its output
    0, event 15 counted after event 24 and source 4 present (the order of the blocks is the model's choice, log 61);
    AUTO feeding out of MOVING starts its run-on (or is IDLE with a run-on time of 0); with heat mode ON a change out
    of MOVING or REVERSING starts the standby timer (or standby, with a delay of 0). Otherwise only the timer runs on.
    The warm-reset case of R27 (frame long past) is included. -/
def Obligations.TravelTimerLosesTravel : Prop :=
  (∀ (s u : State) (c : Vector Counter 4),
      s.resetLine = false →
      s.trv.state ≠ .unknown →
      u = reach s.trv.timerDue s →
      frameOverdue u = true →
      c = countAll .travelUnknown (match s.trv.last with | some x => x.src.val | none => 15) 1 u.now s.trv.index
          s.evc.counters →
      ∃ t, exec .travelTimerExpiry s = .next t ∧ t.now = u.now ∧
      t.trv = { s.trv with
        state := .unknown, motion := [], timerDue := s.trv.timerDue + 100, stopMark := u.now,
        stopMs := if s.trv.jobOpen = true ∧ s.trv.state = .stopped then s.trv.stopMs + u.age s.trv.stopMark
          else s.trv.stopMs } ∧
      t.msi = { s.msi with
        flags := if s.trv.jobOpen = true ∧ accumulates s = true then
            s.msi.flags ||| bit IntervalFlag.travelLost.position
          else s.msi.flags } ∧
      t.evc.counters = (if s.lvc.mode.corrects = true then countAll .holdEntered 0 1 u.now s.trv.index c else c) ∧
      OnlyBroadcasts s t ∧
      KeepsAllBut [.now, .trv, .msi, .evc, .alr, .lnk, .lvc, .fdc, .cfg, .zht, .gsu] s t) ∧
  (∀ (s u : State),
      s.resetLine = false →
      s.trv.state ≠ .unknown →
      u = reach s.trv.timerDue s →
      frameOverdue u = true →
      s.lvc.mode.corrects = false →
      s.fdc.mode ≠ .auto →
      s.cfg.heatMode ≠ .on →
      ∃ t, exec .travelTimerExpiry s = .next t ∧ t.now = u.now ∧
      t.trv = { s.trv with
        state := .unknown, motion := [], timerDue := s.trv.timerDue + 100, stopMark := u.now,
        stopMs := if s.trv.jobOpen = true ∧ s.trv.state = .stopped then s.trv.stopMs + u.age s.trv.stopMark
          else s.trv.stopMs } ∧
      t.msi = { s.msi with
        flags := if s.trv.jobOpen = true ∧ accumulates s = true then
            s.msi.flags ||| bit IntervalFlag.travelLost.position
          else s.msi.flags } ∧
      Counts .travelUnknown (match s.trv.last with | some x => x.src.val | none => 15) 1 u.now s.trv.index s t ∧
      OnlyAlerts s t ∧ KeepsAllBut [.now, .trv, .msi, .evc, .alr, .lnk] s t) ∧
  (∀ (s u : State),
      s.resetLine = false →
      s.trv.state ≠ .unknown →
      u = reach s.trv.timerDue s →
      frameOverdue u = true →
      s.lvc.mode.corrects = true →
      ∃ t, exec .travelTimerExpiry s = .next t ∧ t.trv.state = .unknown ∧ t.lvc.mode = .hold .travel ∧
          t.lvc.output = 0 ∧
      t.lvc.slew = 0 ∧ t.lvc.trial = none ∧ isPresent t .hold ∧
          KeepsAllBut [.now, .trv, .msi, .evc, .alr, .lnk, .lvc, .fdc, .cfg, .zht, .gsu] s t) ∧
  (∀ (s u : State),
      s.resetLine = false →
      s.trv.state ≠ .unknown →
      u = reach s.trv.timerDue s →
      frameOverdue u = true →
      s.fdc.mode = .auto →
      s.fdc.phase = some .feeding →
      s.trv.state = .moving →
      ∃ t, exec .travelTimerExpiry s = .next t ∧ t.trv.state = .unknown ∧
      t.fdc = (if 0 < s.item 40 then
          { s.fdc with phase := some .runOn, runOn := some (u.now + BitVec.ofInt 32 (s.item 40 * 1000)) }
        else { s.fdc with phase := some .idle, runOn := none, conveyor := 0, auger := 0 }) ∧
      KeepsAllBut [.now, .trv, .msi, .evc, .alr, .lnk, .lvc, .fdc, .cfg, .zht, .gsu] s t) ∧
  (∀ (s u : State),
      s.resetLine = false →
      s.trv.state ≠ .unknown →
      u = reach s.trv.timerDue s →
      frameOverdue u = true →
      s.cfg.heatMode = .on →
      s.trv.state = .moving ∨ s.trv.state = .reversing →
      ∃ t, exec .travelTimerExpiry s = .next t ∧ t.trv.state = .unknown ∧
      t.cfg.heatMode = (if s.item 16 = 0 then .standby else .on) ∧
      t.zht.standbySince = (if s.item 16 = 0 then none else some u.now) ∧
      KeepsAllBut [.now, .trv, .msi, .evc, .alr, .lnk, .lvc, .fdc, .cfg, .zht, .gsu] s t) ∧
  (∀ (s u : State),
      s.resetLine = false →
      u = reach s.trv.timerDue s →
      s.trv.state = .unknown ∨ frameOverdue u = false →
      ∃ t, exec .travelTimerExpiry s = .next t ∧ t.now = u.now ∧
      t.trv = { s.trv with timerDue := s.trv.timerDue + 100 } ∧ KeepsAllBut [.now, .trv] s t)

/-- A TRAVEL of nine bytes from another station, heard, is written into its source's entry with the general part, and
    no other entry changes. A repeat of the last accepted frame's source and sequence number changes no TRV state.
    With no job open: the first frame after power-up or a warm reset gives no increment, be it a discontinuity or not;
    a regular frame adds the increment dL + (dR - dL)(x_c - x_L)/(x_R - x_L), rounded half away from zero, to the
    motion list and sets the travel state from the net motion (5 or more MOVING, -5 or less REVERSING, else STOPPED);
    a discontinuity that is not the first frame adds an increment of 0 and is judged likewise; the frame becomes the
    last accepted one. If the travel state stands, nothing else changes. A change to MOVING ends standby, stops the
    standby timer, sets AUTO feeding and clears PAUSED; a change out of MOVING puts GRADE or SLOPE into PAUSED with
    the output 0 and starts AUTO's run-on. The order of the fields is that of the table's rows (log 15). The list's
    merging of the oldest increment is as the model reads it (log 37), stopMark its own field (log 22); a frame of
    another length writes only the general part. -/
def Obligations.TravelFrameMovesTravel : Prop :=
  (∀ (s : State) (src : Addr) (payload : List Byte) (f : Travel) (x : LastFrame),
      Hears s src payload →
      parseTravel payload = some f →
      s.trv.last = some x →
      x.src = src →
      x.seq = some f.seq →
      ∃ t, exec (.travelFrame src payload) s = .next t ∧ (t.entry src).travel = some (f, s.now) ∧
          (t.entry src).heard = true ∧ (t.entry src).lastTime = some s.now ∧
      (t.entry src).silent = false ∧ (∀ a : Addr, a ≠ src → t.entry a = s.entry a) ∧ OnlyLine s t ∧
          KeepsAllBut [.ptb, .lnk] s t) ∧
  (∀ (s : State) (src : Addr) (payload : List Byte) (f : Travel),
      Hears s src payload →
      parseTravel payload = some f →
      (s.trv.last.all fun x => x.time.isNone && x.seq.isNone) = true →
      s.trv.jobOpen = false →
      s.trv.motion = [] →
      s.trv.state = .unknown →
      ∃ t, exec (.travelFrame src payload) s = .next t ∧ (t.entry src).travel = some (f, s.now) ∧
          (t.entry src).heard = true ∧ (t.entry src).lastTime = some s.now ∧
      (t.entry src).silent = false ∧ (∀ a : Addr, a ≠ src → t.entry a = s.entry a) ∧
      t.trv = { s.trv with state := .stopped, last := some { src := src, left := f.left, right := f.right,
                                                             seq := some f.seq, time := some s.now }, stopMark :=
          s.now } ∧ OnlyLine s t ∧
      KeepsAllBut [.ptb, .lnk, .trv] s t) ∧
  (∀ (s : State) (src : Addr) (payload : List Byte) (f : Travel) (x : LastFrame),
      Hears s src payload →
      parseTravel payload = some f →
      s.trv.jobOpen = false →
      s.trv.last = some x →
      x.src = src →
      x.seq ≠ some f.seq →
      x.time.isSome = true →
      jumps f.left x.left = false →
      jumps f.right x.right = false →
      ∃ t, exec (.travelFrame src payload) s = .next t ∧ (t.entry src).travel = some (f, s.now) ∧
          (t.entry src).heard = true ∧ (t.entry src).lastTime = some s.now ∧
      (t.entry src).silent = false ∧ (∀ a : Addr, a ≠ src → t.entry a = s.entry a) ∧
      t.trv = { s.trv with
        motion := addMotion (interpolate (f.left - x.left).toInt (f.right - x.right).toInt s.cfg.centre (s.item 5 * 10)
            (s.item 6 * 10)) s.now
          s.trv.motion,
        state := t.trv.state, last := some { src := src, left := f.left, right := f.right, seq := some f.seq,
                                             time := some s.now },
        stopMark := t.trv.stopMark } ∧
      t.trv.state = (if 5 ≤ netMotion t.trv.motion then .moving else if netMotion t.trv.motion ≤ -5 then
          .reversing else .stopped) ∧
      (t.trv.state = s.trv.state → OnlyLine s t ∧ KeepsAllBut [.ptb, .lnk, .trv] s t) ∧
      (t.trv.state = .moving → s.trv.state ≠ .moving →
        (s.cfg.heatMode = .standby → t.cfg.heatMode = .on) ∧ t.zht.standbySince = none ∧
        (s.fdc.mode = .auto → t.fdc.phase = some .feeding ∧ t.fdc.runOn = none) ∧
        (s.lvc.mode.corrects = true → t.lvc.paused = false ∧ t.lvc.mode = s.lvc.mode)) ∧
      (s.trv.state = .moving → t.trv.state ≠ .moving →
        (s.lvc.mode.corrects = true → t.lvc.output = 0 ∧ t.lvc.slew = 0 ∧ t.lvc.paused = true ∧
            t.lvc.mode = s.lvc.mode) ∧
        (s.fdc.mode = .auto → s.fdc.phase = some .feeding → 0 < s.item 40 → t.fdc.phase = some .runOn)) ∧
      KeepsAllBut [.ptb, .lnk, .trv, .lvc, .fdc, .zht, .cfg, .gsu] s t) ∧
  (∀ (s : State) (src : Addr) (payload : List Byte) (f : Travel) (x : LastFrame),
      Hears s src payload →
      parseTravel payload = some f →
      s.trv.jobOpen = false →
      s.trv.last = some x →
      x.time.isSome = true →
      x.src ≠ src ∨ jumps f.left x.left = true ∨ jumps f.right x.right = true →
      x.src ≠ src ∨ x.seq ≠ some f.seq →
      ∃ t, exec (.travelFrame src payload) s = .next t ∧ (t.entry src).travel = some (f, s.now) ∧
          (t.entry src).heard = true ∧ (t.entry src).lastTime = some s.now ∧
      (t.entry src).silent = false ∧ (∀ a : Addr, a ≠ src → t.entry a = s.entry a) ∧
      t.trv = { s.trv with
        motion := addMotion 0 s.now s.trv.motion,
        state := t.trv.state, last := some { src := src, left := f.left, right := f.right, seq := some f.seq,
                                             time := some s.now },
        stopMark := t.trv.stopMark } ∧
      t.trv.state = (if 5 ≤ netMotion t.trv.motion then .moving else if netMotion t.trv.motion ≤ -5 then
          .reversing else .stopped) ∧
      (t.trv.state = s.trv.state → OnlyLine s t ∧ KeepsAllBut [.ptb, .lnk, .trv] s t) ∧
      (t.trv.state = .moving → s.trv.state ≠ .moving →
        (s.cfg.heatMode = .standby → t.cfg.heatMode = .on) ∧ t.zht.standbySince = none ∧
        (s.fdc.mode = .auto → t.fdc.phase = some .feeding ∧ t.fdc.runOn = none) ∧
        (s.lvc.mode.corrects = true → t.lvc.paused = false ∧ t.lvc.mode = s.lvc.mode)) ∧
      (s.trv.state = .moving → t.trv.state ≠ .moving →
        (s.lvc.mode.corrects = true → t.lvc.output = 0 ∧ t.lvc.slew = 0 ∧ t.lvc.paused = true ∧
            t.lvc.mode = s.lvc.mode) ∧
        (s.fdc.mode = .auto → s.fdc.phase = some .feeding → 0 < s.item 40 → t.fdc.phase = some .runOn)) ∧
      KeepsAllBut [.ptb, .lnk, .trv, .lvc, .fdc, .zht, .cfg, .gsu] s t) ∧
  (∀ (s : State) (src : Addr) (payload : List Byte),
      Hears s src payload →
      payload.length ≠ 9 →
      ∃ t, exec (.travelFrame src payload) s = .next t ∧ t.ptb = (hear src s).ptb ∧ OnlyLine s t ∧
          KeepsAllBut [.ptb, .lnk] s t)

/-- With a job open and a regular accepted frame, its fields in the order of the table's rows (log 15), bay travel is
    Lj + (Rj - Lj)(x_c - x_L)/(x_R - x_L) from the job base counts, the high-water travel its maximum, and the index
    base index + (high-water - base travel) div I held at 16777215. While the index does not exceed MSI's open index,
    ring and interval stand; when it does (accumulating in RUN or HALT), one record more stands in the ring and the
    open index is the new index. At a discontinuity (another source, or a count off by more than 2000 mm) the base is
    the old index + 1 with base travel 0, the high-water travel 0, the job base counts the frame's, bay travel 0, the
    index the old one + 1, and the record closed carries TRAVEL_LOST. That the steps of a discontinuity come before
    the motion judgement is the model's choice (log 42), as is stopMark (log 22); an interval length changed with a
    job open is log 43. -/
def Obligations.TravelFrameAdvancesJob : Prop :=
  (∀ (s : State) (src : Addr) (payload : List Byte) (f : Travel) (x : LastFrame) (l r : TrackCount) (b : Int) (h : Int)
      (i : Nat),
      Hears s src payload →
      parseTravel payload = some f →
      s.trv.jobOpen = true →
      s.trv.last = some x →
      x.src = src →
      x.seq ≠ some f.seq →
      jumps f.left x.left = false →
      jumps f.right x.right = false →
      s.trv.jobBase = some (l, r) →
      b = interpolate (f.left - l).toInt (f.right - r).toInt s.cfg.centre (s.item 5 * 10) (s.item 6 * 10) →
      h = max s.trv.highWater b →
      i = min max24 (s.trv.baseIndex + ((h - s.trv.baseTravel) / s.item 7).toNat) →
      ∃ t, exec (.travelFrame src payload) s = .next t ∧ t.trv.bayTravel = some b ∧ t.trv.highWater = h ∧
          t.trv.index = i ∧
      t.trv.baseIndex = s.trv.baseIndex ∧ t.trv.baseTravel = s.trv.baseTravel ∧ t.trv.jobBase = s.trv.jobBase ∧
      (i ≤ s.msi.openIndex → t.ring = s.ring ∧ t.msi = s.msi ∧
        KeepsAllBut [.ptb, .lnk, .trv, .lvc, .fdc, .zht, .cfg, .gsu] s t) ∧
      (s.msi.openIndex < i → accumulates s = true →
        t.ring.nextSeq = s.ring.nextSeq + 1 ∧ t.msi.openIndex = i ∧ t.msi.flags = 0 ∧ t.trv.stopMs = 0 ∧
        KeepsAllBut [.ptb, .lnk, .trv, .lvc, .fdc, .zht, .cfg, .gsu, .msi, .ring, .rdu, .mck, .evc, .alr] s t)) ∧
  (∀ (s : State) (src : Addr) (payload : List Byte) (f : Travel) (x : LastFrame),
      Hears s src payload →
      parseTravel payload = some f →
      s.trv.jobOpen = true →
      accumulates s = true →
      s.msi.openIndex ≤ s.trv.index →
      s.trv.index < max24 →
      s.trv.last = some x →
      x.src ≠ src ∨ jumps f.left x.left = true ∨ jumps f.right x.right = true →
      x.src ≠ src ∨ x.seq ≠ some f.seq →
      ∃ t, exec (.travelFrame src payload) s = .next t ∧ t.trv.bayTravel = some 0 ∧ t.trv.highWater = 0 ∧
      t.trv.index = s.trv.index + 1 ∧ t.trv.baseIndex = s.trv.index + 1 ∧ t.trv.baseTravel = 0 ∧
      t.trv.jobBase = some (f.left, f.right) ∧ t.msi.openIndex = s.trv.index + 1 ∧
      t.ring.nextSeq = s.ring.nextSeq + 1 ∧
      hasBit (set16 ((t.ring.read (slotOf s.ring.nextSeq)).bytes.getD 27 0)
          ((t.ring.read (slotOf s.ring.nextSeq)).bytes.getD 28 0))
        IntervalFlag.travelLost.position = true ∧
      t.trv.last = some { src := src, left := f.left, right := f.right, seq := some f.seq, time := some s.now })

/-- With the reset line released and the heating laws holding: a THERMOCOUPLE_SAMPLE whose reading is flagged or
    outside -20.0..450.0 degrees leaves the last reading, stores the sample time, restarts the 1000 ms timeout and
    puts the zone in FAULT: reason SENSOR, except that a zone in FAULT with its current latch set keeps its reason.
    Its element is off and the own draw is the sum of the elements on; if it was CLAIMING the claim is none and the
    back-off runs from now; source 2 is present; if it was not in FAULT before, the ready flag is clear with no start
    (that the condition fails at that evaluation is log 47); an ON zone's current is not checked at it (log 44).
    SAMPLE_TIMEOUT does the same at the timeout's moment (log 2), with no sample time stored (log 38) and the timeout
    restarted. The readings, times, reasons and latches of the other zones stand. -/
def Obligations.InvalidSampleFaultsZone : Prop :=
  (∀ (s : State) (z : ZoneId) (r : Option Int) (c : Option Nat),
      s.resetLine = false →
      HeatLaw s →
      (∀ v ∈ r, v < -200 ∨ 4500 < v) →
      ∃ t, exec (.thermocoupleSample z r c) s = .next t ∧ (t.zone z).lastSample = some s.now ∧
      (t.zone z).timeoutDue = s.now + 1000 ∧ (t.zone z).state = .fault ∧ (t.zone z).element = false ∧
      (t.zone z).reason = (if (s.zone z).state = .fault ∧ (s.zone z).latch = true then (s.zone z).reason else .sensor) ∧
      (t.zone z).latch = (s.zone z).latch ∧ (t.zone z).reading = (s.zone z).reading ∧ isPresent t .zoneFault ∧
      t.gsu.ownDraw = drawOf t ∧
      ((s.zone z).state = .claiming → t.gsu.claim = none ∧
        t.gsu.backOff = some (t.now + BitVec.ofNat 32 (100 + 20 * s.cfg.straps.bay))) ∧
      ((s.zone z).state ≠ .fault → t.zht.ready = false ∧ t.zht.readyStart = none) ∧
      t.zht.standbySince = s.zht.standbySince ∧ t.msi = { s.msi with flags := t.msi.flags } ∧
      (∀ y, y ≠ z → (t.zone y).reading = (s.zone y).reading ∧ (t.zone y).lastSample = (s.zone y).lastSample ∧
        (t.zone y).timeoutDue = (s.zone y).timeoutDue ∧ (t.zone y).latch = (s.zone y).latch ∧
        (t.zone y).reason = (s.zone y).reason) ∧
      KeepsAllBut [.zht, .gsu, .lnk, .evc, .alr, .msi] s t ∧ LinkStands s t) ∧
  (∀ (s u : State) (z : ZoneId),
      s.resetLine = false →
      HeatLaw s →
      u = reach (s.zone z).timeoutDue s →
      ∃ t, exec (.sampleTimeout z) s = .next t ∧ t.now = u.now ∧ (t.zone z).lastSample = (s.zone z).lastSample ∧
      (t.zone z).timeoutDue = u.now + 1000 ∧ (t.zone z).state = .fault ∧ (t.zone z).element = false ∧
      (t.zone z).reason = (if (s.zone z).state = .fault ∧ (s.zone z).latch = true then (s.zone z).reason else .sensor) ∧
      (t.zone z).latch = (s.zone z).latch ∧ (t.zone z).reading = (s.zone z).reading ∧ isPresent t .zoneFault ∧
      t.gsu.ownDraw = drawOf t ∧
      ((s.zone z).state = .claiming → t.gsu.claim = none ∧
        t.gsu.backOff = some (t.now + BitVec.ofNat 32 (100 + 20 * s.cfg.straps.bay))) ∧
      ((s.zone z).state ≠ .fault → t.zht.ready = false ∧ t.zht.readyStart = none) ∧
      t.zht.standbySince = s.zht.standbySince ∧ t.msi = { s.msi with flags := t.msi.flags } ∧
      (∀ y, y ≠ z → (t.zone y).reading = (s.zone y).reading ∧ (t.zone y).lastSample = (s.zone y).lastSample ∧
        (t.zone y).timeoutDue = (s.zone y).timeoutDue ∧ (t.zone y).latch = (s.zone y).latch ∧
        (t.zone y).reason = (s.zone y).reason) ∧
      KeepsAllBut [.now, .zht, .gsu, .lnk, .evc, .alr, .msi] s t ∧ LinkStands s t)

/-- With the reset line released and a valid reading v, S the effective setpoint, on threshold (S - h) x 10, off
    threshold S x 10, overtemperature threshold the lower of (S + 40) x 10 and 2600. The reading, the sample time and
    the timeout are stored. With heating on in RUN: a zone in OFF, IDLE or WANT, the heating laws holding, is OVERTEMP
    above the overtemperature threshold (event 12), wants power below the on threshold (WANT, or CLAIMING by the offer
    made at once), and is IDLE between; a CLAIMING zone stays, or is OVERTEMP with its claim withdrawn; an ON zone is
    OVERTEMP or IDLE with its element off, or stays ON with its current checked: below 500 the low-current count
    rises, and at 3 the zone is in FAULT with reason CURRENT and its latch set, the ready flag clear with no start; a
    SHED zone is OVERTEMP, stays until its lock end, or is placed; an OVERTEMP zone stays above the off threshold and
    is placed at or below it; a FAULT zone stays while its latch is set and is otherwise placed, marked as one that
    the ready flag counts from its next evaluation on (the model's own mark, log 47). Out of RUN or with heat mode OFF
    an OFF zone stays OFF and an unlatched FAULT zone becomes OFF. -/
def Obligations.ZoneFollowsReading : Prop :=
  (∀ (s : State) (z : ZoneId) (v : Int) (c : Option Nat) (S : Int),
      s.resetLine = false →
      -200 ≤ v →
      v ≤ 4500 →
      s.cfg.node = .run →
      s.cfg.heatMode ≠ .off →
      S = s.cfg.setpoints[z] - (if s.cfg.heatMode = .standby then s.item 17 else 0) →
      HeatLaw s →
      (s.zone z).state = .off ∨ (s.zone z).state = .idle ∨ (s.zone z).state = .want →
      ∃ t, exec (.thermocoupleSample z (some v) c) s = .next t ∧ (t.zone z).reading = some v ∧
          (t.zone z).lastSample = some s.now ∧ (t.zone z).timeoutDue = s.now + 1000 ∧
          (t.zone z).rejoining = ((s.zone z).state == .fault && (t.zone z).state != .fault) ∧
      PlacedByReading t z v ((S - s.item 14) * 10) (min ((S + 40) * 10) 2600) ∧
      (t.zone z).element = (s.zone z).element ∧ (t.zone z).latch = (s.zone z).latch ∧
      ((min ((S + 40) * 10) 2600) < v → (s.zone z).element = false →
        (∀ y, y ≠ z → (s.zone y).state ≠ .want ∧ (s.zone y).state ≠ .claiming) →
        Counts .zoneOvertemp z 1 s.now s.trv.index s t) ∧
      KeepsAllBut [.zht, .gsu, .lnk, .evc, .alr, .msi] s t ∧ LinkStands s t) ∧
  (∀ (s : State) (z : ZoneId) (v : Int) (c : Option Nat) (S : Int),
      s.resetLine = false →
      -200 ≤ v →
      v ≤ 4500 →
      s.cfg.node = .run →
      s.cfg.heatMode ≠ .off →
      S = s.cfg.setpoints[z] - (if s.cfg.heatMode = .standby then s.item 17 else 0) →
      (s.zone z).state = .claiming →
      s.gsu.claim.map (·.zone) = some z →
      (s.zone z).element = false →
      ∃ t, exec (.thermocoupleSample z (some v) c) s = .next t ∧ (t.zone z).reading = some v ∧
          (t.zone z).lastSample = some s.now ∧ (t.zone z).timeoutDue = s.now + 1000 ∧
      (if (min ((S + 40) * 10) 2600) < v then
        (t.zone z).state = .overtemp ∧ t.gsu.claim = none ∧
          t.gsu.backOff = some (s.now + BitVec.ofNat 32 (100 + 20 * s.cfg.straps.bay))
      else (t.zone z).state = .claiming ∧ t.gsu.claim = s.gsu.claim) ∧ (t.zone z).element = false ∧
          KeepsAllBut [.zht, .gsu, .lnk, .evc, .alr, .msi] s t ∧ LinkStands s t) ∧
  (∀ (s : State) (z : ZoneId) (v : Int) (c : Option Nat) (S : Int),
      s.resetLine = false →
      -200 ≤ v →
      v ≤ 4500 →
      s.cfg.node = .run →
      s.cfg.heatMode ≠ .off →
      S = s.cfg.setpoints[z] - (if s.cfg.heatMode = .standby then s.item 17 else 0) →
      (s.zone z).state = .on →
      (s.zone z).element = true →
      ∃ t, exec (.thermocoupleSample z (some v) c) s = .next t ∧ (t.zone z).reading = some v ∧
          (t.zone z).lastSample = some s.now ∧ (t.zone z).timeoutDue = s.now + 1000 ∧
      (if (min ((S + 40) * 10) 2600) < v then (t.zone z).state = .overtemp ∧ (t.zone z).element = false ∧
          (t.zone z).lowCount = 0 ∧
          t.gsu.ownDraw = drawOf t
      else if S * 10 ≤ v then (t.zone z).state = .idle ∧ (t.zone z).element = false ∧ (t.zone z).lowCount = 0 ∧
          t.gsu.ownDraw = drawOf t
      else if c.getD 0 < 500 ∧ 2 ≤ (s.zone z).lowCount then
        (t.zone z).state = .fault ∧ (t.zone z).reason = .current ∧ (t.zone z).latch = true ∧
          (t.zone z).element = false ∧ (t.zone z).lowCount = 0 ∧ t.gsu.ownDraw = drawOf t ∧ isPresent t .zoneFault ∧
          t.zht.ready = false ∧ t.zht.readyStart = none
      else (t.zone z).state = .on ∧ (t.zone z).element = true ∧
        (t.zone z).lowCount = if c.getD 0 < 500 then (s.zone z).lowCount + 1 else 0) ∧
            KeepsAllBut [.zht, .gsu, .lnk, .evc, .alr, .msi] s t ∧ LinkStands s t) ∧
  (∀ (s : State) (z : ZoneId) (v : Int) (c : Option Nat) (S : Int),
      s.resetLine = false →
      -200 ≤ v →
      v ≤ 4500 →
      s.cfg.node = .run →
      s.cfg.heatMode ≠ .off →
      S = s.cfg.setpoints[z] - (if s.cfg.heatMode = .standby then s.item 17 else 0) →
      (s.zone z).state = .shed →
      ∃ t, exec (.thermocoupleSample z (some v) c) s = .next t ∧ (t.zone z).reading = some v ∧
          (t.zone z).lastSample = some s.now ∧ (t.zone z).timeoutDue = s.now + 1000 ∧
      (if (min ((S + 40) * 10) 2600) < v then (t.zone z).state = .overtemp ∧ (t.zone z).shedLock = none
      else if (s.zone z).shedLock.any (ahead s.now) then
        (t.zone z).state = .shed ∧ (t.zone z).shedLock = (s.zone z).shedLock
      else PlacedByReading t z v ((S - s.item 14) * 10) (min ((S + 40) * 10) 2600) ∧ (t.zone z).shedLock = none) ∧
      KeepsAllBut [.zht, .gsu, .lnk, .evc, .alr, .msi] s t ∧ LinkStands s t) ∧
  (∀ (s : State) (z : ZoneId) (v : Int) (c : Option Nat) (S : Int),
      s.resetLine = false →
      -200 ≤ v →
      v ≤ 4500 →
      s.cfg.node = .run →
      s.cfg.heatMode ≠ .off →
      S = s.cfg.setpoints[z] - (if s.cfg.heatMode = .standby then s.item 17 else 0) →
      (s.zone z).state = .overtemp →
      ∃ t, exec (.thermocoupleSample z (some v) c) s = .next t ∧ (t.zone z).reading = some v ∧
          (t.zone z).lastSample = some s.now ∧ (t.zone z).timeoutDue = s.now + 1000 ∧
      (if S * 10 < v then (t.zone z).state = .overtemp
      else PlacedByReading t z v ((S - s.item 14) * 10) (min ((S + 40) * 10) 2600)) ∧
          KeepsAllBut [.zht, .gsu, .lnk, .evc, .alr, .msi] s t ∧ LinkStands s t) ∧
  (∀ (s : State) (z : ZoneId) (v : Int) (c : Option Nat) (S : Int),
      s.resetLine = false →
      -200 ≤ v →
      v ≤ 4500 →
      s.cfg.node = .run →
      s.cfg.heatMode ≠ .off →
      S = s.cfg.setpoints[z] - (if s.cfg.heatMode = .standby then s.item 17 else 0) →
      (s.zone z).state = .fault →
      ∃ t, exec (.thermocoupleSample z (some v) c) s = .next t ∧ (t.zone z).reading = some v ∧
          (t.zone z).lastSample = some s.now ∧ (t.zone z).timeoutDue = s.now + 1000 ∧
          (t.zone z).rejoining = ((s.zone z).state == .fault && (t.zone z).state != .fault) ∧
          (t.zone z).latch = (s.zone z).latch ∧
      (if (s.zone z).latch = true then (t.zone z).state = .fault ∧ (t.zone z).reason = (s.zone z).reason
      else PlacedByReading t z v ((S - s.item 14) * 10) (min ((S + 40) * 10) 2600) ∧ (t.zone z).reason = .none) ∧
          KeepsAllBut [.zht, .gsu, .lnk, .evc, .alr, .msi] s t ∧ LinkStands s t) ∧
  (∀ (s : State) (z : ZoneId) (v : Int) (c : Option Nat),
      s.resetLine = false →
      -200 ≤ v →
      v ≤ 4500 →
      s.cfg.node ≠ .run ∨ s.cfg.heatMode = .off →
      (s.zone z).state = .off ∨ ((s.zone z).state = .fault ∧ (s.zone z).latch = false) →
      ∃ t, exec (.thermocoupleSample z (some v) c) s = .next t ∧ (t.zone z).reading = some v ∧
          (t.zone z).lastSample = some s.now ∧ (t.zone z).timeoutDue = s.now + 1000 ∧
          (t.zone z).rejoining = ((s.zone z).state == .fault && (t.zone z).state != .fault) ∧ (t.zone z).state = .off ∧
      (t.zone z).element = (s.zone z).element ∧ KeepsAllBut [.zht, .gsu, .lnk, .evc, .alr, .msi] s t ∧ LinkStands s t)

/-- With the reset line released. When the evaluated zone is WANT and stays below its on threshold, no other zone is
    WANT or CLAIMING, no zone is in FAULT, the node is RUN with heating on and the GSU's seven conditions hold with
    room in the U list, the zone becomes CLAIMING: the claim in flight is QUEUED with zone, power and the need formed
    from the deficit, and its CLAIM stands in slot U's queue. When a zone not in FAULT is left below its ready band
    the ready flag is clear with no start; when every zone not in FAULT, but for one that has left FAULT and has not
    been evaluated since (log 47), is in its band in RUN with heating on and the start lies 60000 ms or more back, the
    flag is set, and with no start it is now. -/
def Obligations.OfferMakesClaimAndReadyIsJudged : Prop :=
  (∀ (s : State) (z : ZoneId) (v : Int) (c : Option Nat) (need : Nat),
      s.resetLine = false →
      -200 ≤ v →
      v ≤ 4500 →
      s.cfg.node = .run →
      s.cfg.heatMode = .on →
      (s.zone z).state = .want →
      v < (s.cfg.setpoints[z] - s.item 14) * 10 →
      v ≤ 2600 →
      v ≤ (s.cfg.setpoints[z] + 40) * 10 →
      (∀ y, y ≠ z → (s.zone y).state = .off ∨ (s.zone y).state = .idle ∨ (s.zone y).state = .on) →
      ownDemandYoung s = true →
      s.gsu.claim = none →
      s.gsu.backOff = none →
      claimWaits s = false →
      canQueueU s = true →
      withinLimit s (committedDraw s + s.power z) = true →
      need = min 255 (((s.cfg.setpoints[z] * 10 - v).toNat + 5) / 10 + (if s.msi.lastCold then (s.item 18).toNat else
          0)) →
      ∃ t, exec (.thermocoupleSample z (some v) c) s = .next t ∧ (t.zone z).state = .claiming ∧
      t.gsu.claim = some { zone := z, power := s.power z, need := need, window := none } ∧ t.gsu.need = need ∧
      (queuedU t)[(queuedU s).length]? = some {
        dst := 15, tag := 0, resets := false, body := .claim { zone := z, power := s.power z, need := need } } ∧
      (t.zone z).element = (s.zone z).element ∧
      Counts .claimMade z 1 s.now s.trv.index s t ∧ KeepsAllBut [.zht, .gsu, .lnk, .evc, .alr] s t) ∧
  (∀ (s : State) (z : ZoneId) (v : Int) (c : Option Nat) (S : Int),
      s.resetLine = false →
      -200 ≤ v →
      v ≤ 4500 →
      S = s.cfg.setpoints[z] - (if s.cfg.heatMode = .standby then s.item 17 else 0) →
      v < (S - s.item 15) * 10 →
      (s.zone z).state = .off ∨ (s.zone z).state = .idle ∨ (s.zone z).state = .want ∨ (s.zone z).state = .claiming →
      ∃ t, exec (.thermocoupleSample z (some v) c) s = .next t ∧ t.zht.ready = false ∧ t.zht.readyStart = none) ∧
  (∀ (s : State) (z : ZoneId) (v : Int) (c : Option Nat) (S : Int),
      s.resetLine = false →
      -200 ≤ v →
      v ≤ 4500 →
      s.cfg.node = .run →
      s.cfg.heatMode ≠ .off →
      S = s.cfg.setpoints[z] - (if s.cfg.heatMode = .standby then s.item 17 else 0) →
      S * 10 ≤ v →
      v ≤ (S + 40) * 10 →
      v ≤ 2600 →
      (s.zone z).state = .idle →
      0 ≤ s.item 14 →
      (∀ y, y ≠ z → (s.zone y).state = .fault ∨ (s.zone y).rejoining = true ∨ ((s.zone y).reading.any fun r =>
        decide ((s.cfg.setpoints[y] - (if s.cfg.heatMode = .standby then s.item 17 else
            0) - s.item 15) * 10 ≤ r)) = true) →
      0 ≤ s.item 15 →
      ∃ t, exec (.thermocoupleSample z (some v) c) s = .next t ∧ (t.zone z).state = .idle ∧
      t.zht.readyStart = some (s.zht.readyStart.getD s.now) ∧
      t.zht.ready = (if s.zht.readyStart.any fun x => decide (60000 ≤ s.age x) then true else s.zht.ready))

/-- In RUN or HALT a taken HEAT-SET of nine bytes first stores the setpoints (0 keeps one, any other is clamped to
    80..200), then acts on the mode, then clears every current latch (a reason CURRENT becoming SENSOR). KEEP leaves
    mode, timer and zones. ON sets ON and restarts the standby timer if travel is STOPPED or UNKNOWN (else stops it).
    STANDBY-NOW sets STANDBY and stops the timer. OFF stops the timer, switches every element off, sets every zone not
    in FAULT OFF without a lock, withdraws a claim (event 9 with its zone, counted before event 5 for the request, and
    the back-off), clears the ready flag and reports one change of draw. A DEMAND waits where the reported mode
    changes (one for all that OFF changes, log 53). The REPLY, before any ALERT that the withdrawal's event 9 causes
    (log 11), is CLAMPED if a setpoint was moved, else DONE, carrying mode, ready flag and each zone's state, reason,
    setpoint and reading after the request (the reason after the latches are cleared is the model's choice, log 52).
    Another mode byte is UNKNOWN, another length REFUSED-FORMAT, the length judged first (log 12).
    STANDBY_TIMER_EXPIRY with the timer running since x comes at x plus the standby delay where that lies ahead (log
    2), stops the timer and sets STANDBY in any node state; with the link ACTIVE and another mode last reported a
    DEMAND waits; no zone is evaluated. With the timer stopped nothing happens. -/
def Obligations.HeatSetAndStandbyTimerAct : Prop :=
  (∀ (s : State) (src : Addr) (tag mode a1 a0 b1 b0 c1 c0 d1 d0 : Byte) (v : Vector Int 4),
      Takes s src [mode, a1, a0, b1, b0, c1, c0, d1, d0] →
      s.cfg.node ≠ .setup →
      v = #v[s16 a1 a0, s16 b1 b0, s16 c1 c0, s16 d1 d0] →
      mode = 0 →
      ∃ t, exec (.heatSetKeep src tag [mode, a1, a0, b1, b0, c1, c0, d1, d0]) s = .next t ∧
      t.cfg = { s.cfg with setpoints := s.cfg.setpoints.zipWith (fun old new => if new = 0 then old else
                             if new < 80 then 80 else if 200 < new then 200 else new) v } ∧
      t.zht = { s.zht with zones := t.zht.zones } ∧ (∀ z, t.zone z =
          { s.zone z with latch := false, reason := if (s.zone z).reason = .current then .sensor else (s.zone z).reason
                            }) ∧
      Answered [.cfg, .zht] s t src tag (if ∃ i : Fin 4, v[i] ≠ 0 ∧ (v[i] < 80 ∨ 200 < v[i]) then .clamped else
          .done) (heatReport t)) ∧
  (∀ (s : State) (src : Addr) (tag mode a1 a0 b1 b0 c1 c0 d1 d0 : Byte) (v : Vector Int 4),
      Takes s src [mode, a1, a0, b1, b0, c1, c0, d1, d0] →
      s.cfg.node ≠ .setup →
      v = #v[s16 a1 a0, s16 b1 b0, s16 c1 c0, s16 d1 d0] →
      mode = 2 →
      ∃ t, exec (.heatSetOn src tag [mode, a1, a0, b1, b0, c1, c0, d1, d0]) s = .next t ∧
      t.cfg = { s.cfg with heatMode := .on, setpoints := s.cfg.setpoints.zipWith (fun old new => if new = 0 then
                             old else if new < 80 then 80 else if 200 < new then 200 else new) v } ∧
      t.zht = { s.zht with
        zones := t.zht.zones,
        standbySince := if s.trv.state = .stopped ∨ s.trv.state = .unknown then some s.now else none } ∧
      (∀ z, t.zone z = { s.zone z with latch := false, reason := if (s.zone z).reason = .current then .sensor else
                                         (s.zone z).reason }) ∧
      t.gsu = { s.gsu with reported := t.gsu.reported, periodDue := t.gsu.periodDue } ∧
      (s.gsu.reported.mode ≠ .on → DemandWaits t) ∧ LinkStands s t ∧
      Replied s t src tag (if ∃ i : Fin 4, v[i] ≠ 0 ∧ (v[i] < 80 ∨ 200 < v[i]) then .clamped else
          .done) (heatReport t) ∧ TakenFrame [.cfg, .zht, .gsu, .lnk] .done src s t) ∧
  (∀ (s : State) (src : Addr) (tag mode a1 a0 b1 b0 c1 c0 d1 d0 : Byte) (v : Vector Int 4),
      Takes s src [mode, a1, a0, b1, b0, c1, c0, d1, d0] →
      s.cfg.node ≠ .setup →
      v = #v[s16 a1 a0, s16 b1 b0, s16 c1 c0, s16 d1 d0] →
      mode = 3 →
      ∃ t, exec (.heatSetStandbyNow src tag [mode, a1, a0, b1, b0, c1, c0, d1, d0]) s = .next t ∧
      t.cfg = { s.cfg with heatMode := .standby, setpoints := s.cfg.setpoints.zipWith (fun old new => if new = 0 then
                             old else if new < 80 then 80 else if 200 < new then 200 else new) v } ∧
      t.zht = { s.zht with zones := t.zht.zones, standbySince := none } ∧
          (∀ z, t.zone z = { s.zone z with latch := false, reason := if (s.zone z).reason = .current then .sensor else
                                             (s.zone z).reason }) ∧
      t.gsu = { s.gsu with reported := t.gsu.reported, periodDue := t.gsu.periodDue } ∧
      (s.gsu.reported.mode ≠ .standby → DemandWaits t) ∧ LinkStands s t ∧
      Replied s t src tag (if ∃ i : Fin 4, v[i] ≠ 0 ∧ (v[i] < 80 ∨ 200 < v[i]) then .clamped else
          .done) (heatReport t) ∧ TakenFrame [.cfg, .zht, .gsu, .lnk] .done src s t) ∧
  (∀ (s : State) (src : Addr) (tag mode a1 a0 b1 b0 c1 c0 d1 d0 : Byte) (v : Vector Int 4),
      Takes s src [mode, a1, a0, b1, b0, c1, c0, d1, d0] →
      s.cfg.node ≠ .setup →
      v = #v[s16 a1 a0, s16 b1 b0, s16 c1 c0, s16 d1 d0] →
      mode = 1 →
      ∃ t, exec (.heatSetOff src tag [mode, a1, a0, b1, b0, c1, c0, d1, d0]) s = .next t ∧
      t.cfg = { s.cfg with heatMode := .off, setpoints := s.cfg.setpoints.zipWith (fun old new => if new = 0 then
                             old else if new < 80 then 80 else if 200 < new then 200 else new) v } ∧
      t.zht = { s.zht with zones := t.zht.zones, standbySince := none, readyStart := none, ready := false } ∧
      (∀ z, t.zone z =
        let w : Zone := { s.zone z with latch := false, reason := if (s.zone z).reason = .current then .sensor else
                                          (s.zone z).reason };
        if w.state = .fault then { w with element := false, lowCount := 0 }
        else { w with element := false, lowCount := 0, state := .off, shedLock := none }) ∧
      t.gsu.ownDraw = 0 ∧ t.gsu.claim = none ∧ t.gsu.holdOff = s.gsu.holdOff ∧ t.gsu.need = s.gsu.need ∧
      t.gsu.backOff = (if s.gsu.claim.isSome then some (s.now + BitVec.ofNat 32 (100 + 20 * s.cfg.straps.bay))
        else s.gsu.backOff) ∧
      (s.gsu.reported.mode ≠ .off → DemandWaits t) ∧ LinkStands s t ∧
      (s.gsu.claim = none → Counts .requestTaken src 1 s.now s.trv.index s t) ∧
      (∀ c ∈ s.gsu.claim, t.evc.counters = countAll .requestTaken src 1 s.now s.trv.index
        (countAll .claimWithdrawn c.zone 1 s.now s.trv.index s.evc.counters)) ∧
      Replied s t src tag (if ∃ i : Fin 4, v[i] ≠ 0 ∧ (v[i] < 80 ∨ 200 < v[i]) then .clamped else
          .done) (heatReport t) ∧ TakenFrame [.cfg, .zht, .gsu, .lnk, .evc, .alr] .done src s t) ∧
  (∀ (s : State) (src : Addr) (tag mode a1 a0 b1 b0 c1 c0 d1 d0 : Byte) (v : Vector Int 4),
      Takes s src [mode, a1, a0, b1, b0, c1, c0, d1, d0] →
      s.cfg.node ≠ .setup →
      3 < mode.toNat →
      ∃ t, exec (.heatSetKeep src tag [mode, a1, a0, b1, b0, c1, c0, d1, d0]) s = .next t ∧
          Answered [] s t src tag .unknown .empty) ∧
  (∀ (s : State) (src : Addr) (tag : Byte) (payload : List Byte),
      Takes s src payload →
      s.cfg.node ≠ .setup →
      payload.length ≠ 9 →
      ∃ t, exec (.heatSetKeep src tag payload) s = .next t ∧ Answered [] s t src tag .refusedFormat .empty) ∧
  (∀ (s : State) (x : Time),
      s.resetLine = false →
      s.zht.standbySince = some x →
      ∃ t, exec .standbyTimerExpiry s = .next t ∧
      t.now = (reach (x + BitVec.ofInt 32 (s.item 16 * 60000)) s).now ∧ t.cfg = { s.cfg with heatMode := .standby } ∧
      t.zht = { s.zht with standbySince := none } ∧
      t.gsu = { s.gsu with reported := t.gsu.reported, periodDue := t.gsu.periodDue } ∧
      (s.active = true → s.gsu.reported.mode ≠ .standby → DemandWaits t) ∧ queuedU t = queuedU s ∧ LinkStands s t ∧
      KeepsAllBut [.now, .cfg, .zht, .gsu, .lnk] s t) ∧
  (∀ (s : State),
      s.zht.standbySince = none →
      exec .standbyTimerExpiry s = .next s)

/-- With the reset line released, the heating laws holding and a claim in its window, u the state at the expiry, the
    node time carried to the window's end (log 2). If the committed draw plus the powers of the claims ranked at or
    before the own one (larger need first, equal needs by the lower bay) is no more than G - H, with H not negative
    and the claim's power the zone's, the element is on, the zone ON with low-current count 0, the claim none, the own
    draw raised by the power, a DEMAND waiting, source 3 judged, no shed, no frame sent. That the need value is
    recomputed at the grant is the model's reading (log 10), and that it is formed anew from the zones as they stand
    its choice (log 45), as is one DEMAND for draw and want (log 53). If the sum is more, the zone is WANT, the claim
    none, event 9 counted with the zone, and the back-off runs 100 ms + 20 ms x bay. With no claim in a window nothing
    happens. -/
def Obligations.ClaimWindowGrantsOrWithdraws : Prop :=
  (∀ (s u : State) (c : OwnClaim) (w : Time),
      s.resetLine = false →
      HeatLaw s →
      s.gsu.claim = some c →
      c.window = some w →
      u = reach w s →
      c.power = s.power c.zone →
      0 ≤ s.item 13 →
      ((committedDraw u + rankedSum u c : Nat) : Int) ≤ s.item 12 - s.item 13 →
      ∃ t, exec .claimWindowExpiry s = .next t ∧ t.now = u.now ∧
      t.zone c.zone = { s.zone c.zone with state := .on, element := true, lowCount := 0 } ∧
      (∀ y, y ≠ c.zone → t.zone y = s.zone y) ∧ t.zht = { s.zht with zones := t.zht.zones } ∧
      t.gsu = { s.gsu with
        claim := none, ownDraw := s.gsu.ownDraw + c.power, need := needNow t, reported := t.gsu.reported,
        periodDue := u.now + 500 } ∧ DemandWaits t ∧
      (isPresent t .overload ↔ overloaded t = true) ∧ queuedU t = queuedU s ∧ LinkStands s t ∧
      KeepsAllBut [.now, .zht, .gsu, .lnk, .alr] s t) ∧
  (∀ (s u : State) (c : OwnClaim) (w : Time),
      s.resetLine = false →
      HeatLaw s →
      s.gsu.claim = some c →
      c.window = some w →
      u = reach w s →
      s.item 12 - s.item 13 < ((committedDraw u + rankedSum u c : Nat) : Int) →
      ∃ t, exec .claimWindowExpiry s = .next t ∧ t.now = u.now ∧
      t.zone c.zone = { s.zone c.zone with state := .want } ∧ (∀ y, y ≠ c.zone → t.zone y = s.zone y) ∧
      t.zht = { s.zht with zones := t.zht.zones } ∧ t.gsu.claim = none ∧ t.gsu.ownDraw = s.gsu.ownDraw ∧
      t.gsu.backOff = some (u.now + BitVec.ofNat 32 (100 + 20 * s.cfg.straps.bay)) ∧
      t.gsu.view = s.gsu.view ∧ t.gsu.holdOff = s.gsu.holdOff ∧ t.gsu.lastCarried = s.gsu.lastCarried ∧
      Counts .claimWithdrawn c.zone 1 u.now s.trv.index s t ∧ OnlyBroadcasts s t ∧
      KeepsAllBut [.now, .zht, .gsu, .lnk, .evc, .alr] s t) ∧
  (∀ (s : State),
      s.gsu.claim.all (fun c => c.window.isNone) = true →
      exec .claimWindowExpiry s = .next s)

/-- With the reset line released. Each carries the node time to its moment where that lies ahead (log 2). BACK_OFF_END
    with the back-off running to x stops it and does nothing else; with none running nothing happens.
    SHED_HOLD_OFF_EXPIRY with the hold-off running stops it and makes one evaluation, u the state at that moment: if C
    exceeds G and this node is the chosen candidate (smallest need, among equal needs the higher bay), the first
    element on in the order Z3, Z0, Z2, Z1 is shed in the five steps of R69 (event 9 for a claim withdrawn, then event
    11), source 3 judged on the draw it leaves (log 23); if not, nothing but source 3, which is judged, changes. That
    the own need falls back to the present one before an own DEMAND is in the entry is the model's choice (log 14). -/
def Obligations.BackOffAndHoldOffEnd : Prop :=
  (∀ (s : State) (x : Time),
      s.resetLine = false →
      s.gsu.backOff = some x →
      ∃ t, exec .backOffEnd s = .next t ∧ t.now = (reach x s).now ∧ t.gsu = { s.gsu with backOff := none } ∧
      KeepsAllBut [.now, .gsu] s t) ∧
  (∀ (s : State),
      s.gsu.backOff = none →
      exec .backOffEnd s = .next s) ∧
  (∀ (s u : State) (x : Time) (z : ZoneId),
      s.resetLine = false →
      s.gsu.holdOff = some x →
      u = (reach x s).setGsu { s.gsu with holdOff := none } →
      overloaded u = true →
      chosenToShed u = some s.self →
      shedZone u = some z →
      ∃ t, exec .shedHoldOffExpiry s = .next t ∧ t.now = u.now ∧ Sheds z u t ∧ OnlyBroadcasts s t ∧
      (∀ y, y ≠ z → (t.zone y).element = (s.zone y).element) ∧
      KeepsAllBut [.now, .zht, .gsu, .lnk, .evc, .alr, .msi] s t) ∧
  (∀ (s u : State) (x : Time),
      s.resetLine = false →
      s.gsu.holdOff = some x →
      u = (reach x s).setGsu { s.gsu with holdOff := none } →
      overloaded u = false ∨ chosenToShed u ≠ some s.self →
      ∃ t, exec .shedHoldOffExpiry s = .next t ∧ t.now = u.now ∧ t.gsu = { s.gsu with holdOff := none } ∧
      (isPresent t .overload ↔ overloaded t = true) ∧ OnlyAlerts s t ∧ KeepsAllBut [.now, .gsu, .lnk, .alr] s t) ∧
  (∀ (s : State),
      s.gsu.holdOff = none →
      exec .shedHoldOffExpiry s = .next s)

/-- With the reset line released. Each carries the node time to its moment where that lies ahead (log 2).
    DEMAND_PERIOD_EXPIRY on an ACTIVE link queues a DEMAND of the present draw, want (0 with no offer made, log 13),
    need, ready flag, heat mode and node state and restarts the 500 ms timer; in LISTEN-ONLY it is passed over and the
    timer runs on by 500 ms from its last moment (the model's choice, log 31). OWN_DEMAND_AGE_LIMIT, an own DEMAND
    last carried at x, comes at x + 4001 ms: every element is off, ON zones are IDLE and the CLAIMING zone WANT, the
    claim is none with no event and no back-off, the draw 0, and a DEMAND waits unless the link is LISTEN-ONLY (the
    claim abandoned first, then one DEMAND: the model's choice, log 49). With no own DEMAND carried it does nothing.
    -/
def Obligations.DemandTimersAct : Prop :=
  (∀ (s : State),
      s.resetLine = false →
      s.active = true →
      ∃ t, exec .demandPeriodExpiry s = .next t ∧ t.now = (reach s.gsu.periodDue s).now ∧
      t.gsu = { s.gsu with
        reported := { want := wantNow s, ready := s.zht.ready, mode := s.cfg.heatMode, node := s.cfg.node },
        periodDue := t.now + 500 } ∧
      WaitsInP t (.demand { draw := s.gsu.ownDraw, want := wantNow s, need := s.gsu.need, ready := s.zht.ready,
                            mode := heatModeCode s.cfg.heatMode, node := nodeCode s.cfg.node }) ∧
      queuedU t = queuedU s ∧ LinkStands s t ∧ KeepsAllBut [.now, .gsu, .lnk] s t) ∧
  (∀ (s : State),
      s.resetLine = false →
      s.active = false →
      ∃ t, exec .demandPeriodExpiry s = .next t ∧ t.now = (reach s.gsu.periodDue s).now ∧
      t.gsu = { s.gsu with periodDue := s.gsu.periodDue + 500 } ∧ KeepsAllBut [.now, .gsu] s t) ∧
  (∀ (s : State) (x : Time),
      s.resetLine = false →
      s.gsu.lastCarried = some x →
      ∃ t, exec .ownDemandAgeLimit s = .next t ∧ t.now = (reach (x + 4001) s).now ∧
      (∀ z, t.zone z = { s.zone z with
        element := false, lowCount := 0,
        state := if (s.zone z).state = .on then .idle else if (s.zone z).state = .claiming then .want
          else (s.zone z).state }) ∧ t.zht = { s.zht with zones := t.zht.zones } ∧
      t.gsu = { s.gsu with
        ownDraw := 0, claim := none, reported := t.gsu.reported, periodDue := t.gsu.periodDue } ∧
      (s.active = true → DemandWaits t) ∧ OnlyBroadcasts s t ∧ KeepsAllBut [.now, .zht, .gsu, .lnk, .alr] s t) ∧
  (∀ (s : State),
      s.gsu.lastCarried = none →
      exec .ownDemandAgeLimit s = .next s)

/-- With the reset line released: on a node with the LEV strap a HEAD_READING_ARRIVAL within 200..15000 replaces that
    head's record by the reading and the node time, an INCLINOMETER_ARRIVAL within -1000..1000 the inclinometer
    record; on a node with the FEED strap a LEVEL_SENSOR_ARRIVAL within 0..1000 replaces the level record. Nothing
    else changes. A flagged reading, one outside its range, and any reading on a node without the strap change
    nothing. -/
def Obligations.SensorReadingsAreStored : Prop :=
  (∀ (s : State) (i : Fin 3) (v : Int),
      s.resetLine = false →
      s.cfg.straps.lev.isSome = true →
      200 ≤ v →
      v ≤ 15000 →
      ∃ t, exec (.headReadingArrival i (some v)) s = .next t ∧
      t.lvc = { s.lvc with heads := s.lvc.heads.set i (some (v, s.now)) } ∧ KeepsAllBut [.lvc] s t) ∧
  (∀ (s : State) (i : Fin 3) (r : Option Int),
      s.cfg.straps.lev = none ∨ (∀ v ∈ r, v < 200 ∨ 15000 < v) →
      exec (.headReadingArrival i r) s = .next s) ∧
  (∀ (s : State) (v : Int),
      s.resetLine = false →
      s.cfg.straps.lev.isSome = true →
      -1000 ≤ v →
      v ≤ 1000 →
      ∃ t, exec (.inclinometerArrival (some v)) s = .next t ∧ t.lvc = { s.lvc with incl := some (v, s.now) } ∧
      KeepsAllBut [.lvc] s t) ∧
  (∀ (s : State) (r : Option Int),
      s.cfg.straps.lev = none ∨ (∀ v ∈ r, v < -1000 ∨ 1000 < v) →
      exec (.inclinometerArrival r) s = .next s) ∧
  (∀ (s : State) (v : Int),
      s.resetLine = false →
      s.cfg.straps.feed.isSome = true →
      0 ≤ v →
      v ≤ 1000 →
      ∃ t, exec (.levelSensorArrival (some v)) s = .next t ∧ t.fdc = { s.fdc with level := some (v, s.now) } ∧
      KeepsAllBut [.fdc] s t) ∧
  (∀ (s : State) (r : Option Int),
      s.cfg.straps.feed = none ∨ (∀ v ∈ r, v < 0 ∨ 1000 < v) →
      exec (.levelSensorArrival r) s = .next s)

/-- With the reset line released, u the state at the expiry, the node time carried there (log 2) and the timer running
    on by 50 ms from its last moment (log 31). Outside GRADE and SLOPE nothing else happens. In SLOPE without a
    present partner in GRADE the node enters HOLD with PARTNER, with travel UNKNOWN with TRAVEL, without a computable
    error with SENSOR, with the effects of R81, no event 13. Otherwise, no trial running, the error is stored and
    event 13 counted. With travel MOVING the output, which becomes the slew state, follows the reversal, rise and fall
    of R83 from the target of R82, and the saturation run rises at a target of u_max, counts event 14 and is 0 at item
    33, and is 0 at any other target. With travel STOPPED or REVERSING the output, slew state and saturation run are 0
    and PAUSED is set. The target is 0 up to d, the rounded line between d and P, u_max from P; the GRADE error is A -
    (reference + offset) with A the rounded weighted mean, the SLOPE error by the strap side, divided by 100 and
    rounded half away from zero. -/
def Obligations.LevellingCycleDrivesPausesOrHolds : Prop :=
  (∀ (s : State),
      s.resetLine = false →
      s.lvc.mode.corrects = false →
      ∃ t, exec .levellingCycle s = .next t ∧ t.now = (reach s.lvc.cycleDue s).now ∧
      t.lvc = { s.lvc with cycleDue := s.lvc.cycleDue + 50 } ∧ KeepsAllBut [.now, .lvc] s t) ∧
  (∀ (s u : State) (r : HoldReason),
      s.resetLine = false →
      u = (reach s.lvc.cycleDue s).setLvc { s.lvc with cycleDue := s.lvc.cycleDue + 50 } →
      s.lvc.mode.corrects = true →
      (s.lvc.mode = .slope ∧ partnerInGrade u = false ∧ r = .partner) ∨
        ((s.lvc.mode = .slope → partnerInGrade u = true) ∧
          ((s.trv.state = .unknown ∧ r = .travel) ∨ (s.trv.state ≠ .unknown ∧ cycleError u = none ∧ r = .sensor))) →
      ∃ t, exec .levellingCycle s = .next t ∧ t.now = u.now ∧ EntersHold r u t ∧ OnlyAlerts s t ∧
          KeepsAllBut [.now, .lvc, .lnk, .evc, .alr] s t) ∧
  (∀ (s u : State) (e T : Int),
      s.resetLine = false →
      u = (reach s.lvc.cycleDue s).setLvc { s.lvc with cycleDue := s.lvc.cycleDue + 50 } →
      s.lvc.mode.corrects = true →
      (s.lvc.mode = .slope → partnerInGrade u = true) →
      s.trv.state = .moving →
      s.lvc.trial = none →
      cycleError u = some e →
      T = target s.lvc.gains e →
      ∃ t, exec .levellingCycle s = .next t ∧ t.now = u.now ∧
      t.lvc = { u.lvc with lastError := e, output := t.lvc.output, slew := t.lvc.output, satRun := t.lvc.satRun } ∧
      t.lvc.output = (if T ≠ 0 ∧ s.lvc.slew ≠ 0 ∧ T.sign ≠ s.lvc.slew.sign then 0
        else if s.lvc.slew.natAbs < T.natAbs then
          T.sign * min (T.natAbs : Int) (s.lvc.slew.natAbs + s.lvc.gains.slew)
        else T) ∧
      t.lvc.satRun = (if (T.natAbs : Int) = s.lvc.gains.uMax ∧ (s.lvc.satRun + 1 : Int) < s.item 33 then
          s.lvc.satRun + 1
        else 0) ∧
      t.evc.counters = (if (T.natAbs : Int) = s.lvc.gains.uMax ∧ s.item 33 ≤ (s.lvc.satRun + 1 : Int) then
        countAll .levellingSaturated 0 1 u.now s.trv.index
          (countAll .levellingCycle 0 1 u.now s.trv.index s.evc.counters)
        else countAll .levellingCycle 0 1 u.now s.trv.index s.evc.counters) ∧
      OnlyAlerts s t ∧ KeepsAllBut [.now, .lvc, .lnk, .evc, .alr] s t) ∧
  (∀ (s u : State) (e : Int),
      s.resetLine = false →
      u = (reach s.lvc.cycleDue s).setLvc { s.lvc with cycleDue := s.lvc.cycleDue + 50 } →
      s.lvc.mode.corrects = true →
      (s.lvc.mode = .slope → partnerInGrade u = true) →
      s.trv.state = .stopped ∨ s.trv.state = .reversing →
      s.lvc.trial = none →
      cycleError u = some e →
      ∃ t, exec .levellingCycle s = .next t ∧ t.now = u.now ∧
      t.lvc = { u.lvc with lastError := e, output := 0, slew := 0, satRun := 0, paused := true } ∧
      Counts .levellingCycle 0 1 u.now s.trv.index s t ∧ OnlyAlerts s t ∧
          KeepsAllBut [.now, .lvc, .lnk, .evc, .alr] s t) ∧
  (∀ (g : Gains) (e : Int),
      GainsLaw g →
      (e.natAbs ≤ g.d → target g e = 0) ∧
      (g.d < e.natAbs → (e.natAbs : Int) < g.p →
        target g e = e.sign * (g.uMin + (2 * ((e.natAbs - g.d) * (g.uMax - g.uMin)) + (g.p - g.d)) /
            (2 * (g.p - g.d)))) ∧
      (g.p ≤ e.natAbs → target g e = e.sign * g.uMax)) ∧
  (∀ (s : State) (l : List (Int × Int)) (w : Int),
      l = countedHeads s →
      w = (l.map (·.1)).sum →
      s.lvc.mode = .grade →
      s.item 26 ≤ l.length →
      0 < l.length →
      cycleError s = some ((2 * (l.map fun x => x.1 * x.2).sum + w) / (2 * w) -
          (s.lvc.reference.getD 0 + s.lvc.offset))) ∧
  (∀ (s : State) (v : Int) (since : Time) (n : Int),
      s.lvc.mode = .slope →
      s.lvc.incl = some (v, since) →
      s.age since ≤ 150 →
      n = (if s.cfg.straps.lev = some .right then s.lvc.slope - v else v - s.lvc.slope) * s.item 27 →
      cycleError s = some (n.sign * ((n.natAbs + 50) / 100 : Nat)))

/-- With the reset line released, the node time carried to the expiry (log 2), the timer running on from its last
    moment (log 31), a trial running and an error formed, O is the output under the trial gains from the slew state
    and G the one under the active set from the guard slew state, both by R82 and R83. With travel MOVING O is driven
    and is the slew state, G the guard slew state, both are the last duties, the cycles run rise by 1 (saturating at
    65535), saturation is judged on the trial target. If O and G differ by W or less the strike count is 0; if by more
    and the count stays below K it rises and event 16 is counted; if it reaches K event 16 is counted, the trial ends
    with reason WINDOW, its capture filled, source 5 present, and output and slew state are G if O and G have one
    direction or one is 0, otherwise 0. With travel STOPPED or REVERSING both outputs are stored as last duties,
    output and both slew states are 0, PAUSED is set and no strike is judged. -/
def Obligations.TrialCycleDrivesTrialBesideGuard : Prop :=
  (∀ (s u : State) (x : Trial) (e O G : Int),
      s.resetLine = false →
      u = (reach s.lvc.cycleDue s).setLvc { s.lvc with cycleDue := s.lvc.cycleDue + 50 } →
      s.lvc.mode.corrects = true →
      (s.lvc.mode = .slope → partnerInGrade u = true) →
      cycleError u = some e →
      s.lvc.trial = some x →
      O = slewed x.gains.slew s.lvc.slew (target x.gains e) →
      G = slewed s.lvc.gains.slew x.guardSlew (target s.lvc.gains e) →
      s.trv.state = .moving →
      ((O - G).natAbs : Int) ≤ x.w →
      ∃ t, exec .levellingCycle s = .next t ∧ t.now = u.now ∧
      t.lvc = { u.lvc with
        lastError := e, output := O, slew := O,
        trial := some { x with strikes := 0, cycles := min 65535 (x.cycles + 1), trialDuty := O, guardDuty := G,
                               guardSlew := G },
        satRun := (if ((target x.gains e).natAbs : Int) = x.gains.uMax ∧ (s.lvc.satRun + 1 : Int) < s.item 33 then
            s.lvc.satRun + 1 else 0) } ∧
      t.evc.counters = (let c := countAll .levellingCycle 0 1 u.now s.trv.index s.evc.counters;
          if ((target x.gains e).natAbs : Int) = x.gains.uMax ∧ s.item 33 ≤ (s.lvc.satRun + 1 : Int) then
            countAll .levellingSaturated 0 1 u.now s.trv.index c else c) ∧ OnlyAlerts s t ∧
                KeepsAllBut [.now, .lvc, .lnk, .evc, .alr] s t) ∧
  (∀ (s u : State) (x : Trial) (e O G : Int),
      s.resetLine = false →
      u = (reach s.lvc.cycleDue s).setLvc { s.lvc with cycleDue := s.lvc.cycleDue + 50 } →
      s.lvc.mode.corrects = true →
      (s.lvc.mode = .slope → partnerInGrade u = true) →
      cycleError u = some e →
      s.lvc.trial = some x →
      O = slewed x.gains.slew s.lvc.slew (target x.gains e) →
      G = slewed s.lvc.gains.slew x.guardSlew (target s.lvc.gains e) →
      s.trv.state = .moving →
      x.w < ((O - G).natAbs : Int) →
      x.strikes + 1 < x.k →
      ∃ t, exec .levellingCycle s = .next t ∧ t.now = u.now ∧
      t.lvc = { u.lvc with
        lastError := e, output := O, slew := O,
        trial := some { x with strikes := x.strikes + 1, cycles := min 65535 (x.cycles + 1), trialDuty := O,
                               guardDuty := G, guardSlew := G },
        satRun := (if ((target x.gains e).natAbs : Int) = x.gains.uMax ∧ (s.lvc.satRun + 1 : Int) < s.item 33 then
            s.lvc.satRun + 1 else 0) } ∧
      t.evc.counters = countAll .trialStrike 0 1 u.now s.trv.index
          (let c := countAll .levellingCycle 0 1 u.now s.trv.index s.evc.counters;
          if ((target x.gains e).natAbs : Int) = x.gains.uMax ∧ s.item 33 ≤ (s.lvc.satRun + 1 : Int) then
            countAll .levellingSaturated 0 1 u.now s.trv.index c else c) ∧ OnlyAlerts s t ∧
                KeepsAllBut [.now, .lvc, .lnk, .evc, .alr] s t) ∧
  (∀ (s u : State) (x : Trial) (e O G : Int),
      s.resetLine = false →
      u = (reach s.lvc.cycleDue s).setLvc { s.lvc with cycleDue := s.lvc.cycleDue + 50 } →
      s.lvc.mode.corrects = true →
      (s.lvc.mode = .slope → partnerInGrade u = true) →
      cycleError u = some e →
      s.lvc.trial = some x →
      O = slewed x.gains.slew s.lvc.slew (target x.gains e) →
      G = slewed s.lvc.gains.slew x.guardSlew (target s.lvc.gains e) →
      s.trv.state = .moving →
      x.w < ((O - G).natAbs : Int) →
      x.strikes + 1 = x.k →
      s.lvc.paused = false →
      ∃ t, exec .levellingCycle s = .next t ∧ t.now = u.now ∧
      t.lvc = { u.lvc with
        lastError := e, trial := none,
        output := if O * G < 0 then 0 else G, slew := if O * G < 0 then 0 else G,
        capture := some { reason := .window, cycles := min 65535 (x.cycles + 1), index := s.trv.index, error := e,
                          trialDuty := O, guardDuty := G },
        satRun := (if ((target x.gains e).natAbs : Int) = x.gains.uMax ∧ (s.lvc.satRun + 1 : Int) < s.item 33 then
            s.lvc.satRun + 1 else 0) } ∧
      t.evc.counters = countAll .trialStrike 0 1 u.now s.trv.index
          (let c := countAll .levellingCycle 0 1 u.now s.trv.index s.evc.counters;
          if ((target x.gains e).natAbs : Int) = x.gains.uMax ∧ s.item 33 ≤ (s.lvc.satRun + 1 : Int) then
            countAll .levellingSaturated 0 1 u.now s.trv.index c else c) ∧ isPresent t .trialWindow ∧ OnlyAlerts s t ∧
                KeepsAllBut [.now, .lvc, .lnk, .evc, .alr] s t) ∧
  (∀ (s u : State) (x : Trial) (e O G : Int),
      s.resetLine = false →
      u = (reach s.lvc.cycleDue s).setLvc { s.lvc with cycleDue := s.lvc.cycleDue + 50 } →
      s.lvc.mode.corrects = true →
      (s.lvc.mode = .slope → partnerInGrade u = true) →
      cycleError u = some e →
      s.lvc.trial = some x →
      O = slewed x.gains.slew s.lvc.slew (target x.gains e) →
      G = slewed s.lvc.gains.slew x.guardSlew (target s.lvc.gains e) →
      s.trv.state = .stopped ∨ s.trv.state = .reversing →
      ∃ t, exec .levellingCycle s = .next t ∧ t.now = u.now ∧
      t.lvc = { u.lvc with
        lastError := e, output := 0, slew := 0, satRun := 0, paused := true,
        trial := some { x with cycles := min 65535 (x.cycles + 1), trialDuty := O, guardDuty := G, guardSlew := 0 } } ∧
      Counts .levellingCycle 0 1 u.now s.trv.index s t ∧ OnlyAlerts s t ∧
          KeepsAllBut [.now, .lvc, .lnk, .evc, .alr] s t)

/-- With the reset line released. Each carries the node time to its moment where that lies ahead (log 2).
    PARTNER_WATCH_EXPIRY with the watch running to x, u the state at that moment: a node in SLOPE without a present
    partner in GRADE enters HOLD with reason PARTNER, with the effects of R81; with one, the watch is set to 301 ms
    after the partner's levelling part was stored (the model's choice, log 30: a newer frame sets the watch again) and
    nothing else changes. JOG_END with a jog running to x: the node time is carried there, the jog is none and the
    output 0. With no watch, or no jog, nothing happens. -/
def Obligations.WatchAndJogEnd : Prop :=
  (∀ (s u : State) (x : Time),
      s.resetLine = false →
      s.lvc.partnerWatch = some x →
      u = reach x s →
      s.lvc.mode = .slope →
      partnerInGrade u = false →
      ∃ t, exec .partnerWatchExpiry s = .next t ∧ t.now = u.now ∧ EntersHold .partner u t ∧ OnlyAlerts s t ∧
          KeepsAllBut [.now, .lvc, .lnk, .evc, .alr] s t) ∧
  (∀ (s u : State) (x since : Time) (a : Addr) (l : LevelStatus),
      s.resetLine = false →
      s.lvc.partnerWatch = some x →
      u = reach x s →
      s.lvc.mode = .slope →
      partner u = some (a, l) →
      l.mode = 2 →
      (s.entry a).level = some (l, since) →
      ∃ t, exec .partnerWatchExpiry s = .next t ∧ t.now = u.now ∧
      t.lvc = { s.lvc with partnerWatch := some (since + 301) } ∧ KeepsAllBut [.now, .lvc] s t) ∧
  (∀ (s : State),
      s.lvc.partnerWatch = none →
      exec .partnerWatchExpiry s = .next s) ∧
  (∀ (s : State) (j : Jog),
      s.resetLine = false →
      s.lvc.jog = some j →
      ∃ t, exec .jogEnd s = .next t ∧ t.now = (reach j.endTime s).now ∧
      t.lvc = { s.lvc with jog := none, output := 0 } ∧ KeepsAllBut [.now, .lvc] s t) ∧
  (∀ (s : State),
      s.lvc.jog = none →
      exec .jogEnd s = .next s)

/-- With the reset line released, on a node with the strap, the node time is carried to the expiry (log 2) and the
    timer runs on from its last moment (log 31) by 100 ms (LEVEL-STATUS) or 200 ms (FEED-STATUS). With the link ACTIVE
    a frame of the side, mode, error (GRADE and SLOPE alone), output, reference-valid and trial-running, or of the
    side, mode, starved and degraded flags, level as last judged by FDC (65535 while invalid; log 35) and conveyor
    duty, waits in slot P's queue; in the P list no other frame of its class is left, and an occupied slot P keeps its
    frame. In LISTEN-ONLY nothing is queued. Without the strap nothing happens. -/
def Obligations.StatusTimersQueueStatus : Prop :=
  (∀ (s : State) (d : Side),
      s.resetLine = false →
      s.cfg.straps.lev = some d →
      s.active = true →
      ∃ t, exec .levelStatusTimerExpiry s = .next t ∧ t.now = (reach s.lvc.statusDue s).now ∧
      t.lvc = { s.lvc with statusDue := s.lvc.statusDue + 100 } ∧
      WaitsInP t (.levelStatus
        { side := sideCode d, mode := levelModeCode s.lvc.mode,
          error := if s.lvc.mode = .grade ∨ s.lvc.mode = .slope then s.lvc.lastError else 0, duty := s.lvc.output,
          refValid := s.lvc.reference.isSome, trial := s.lvc.trial.isSome }) ∧
      (∀ f ∈ t.lnk.pList, f.body.pClass = 18 → f.body = .levelStatus
        { side := sideCode d, mode := levelModeCode s.lvc.mode,
          error := if s.lvc.mode = .grade ∨ s.lvc.mode = .slope then s.lvc.lastError else 0, duty := s.lvc.output,
          refValid := s.lvc.reference.isSome, trial := s.lvc.trial.isSome }) ∧
      (s.lnk.slotP.isSome = true → t.lnk.slotP = s.lnk.slotP) ∧ t.lnk.slotU = s.lnk.slotU ∧ t.lnk.uList = s.lnk.uList ∧
          LinkStands s t ∧ KeepsAllBut [.now, .lvc, .lnk] s t) ∧
  (∀ (s : State) (d : Side),
      s.resetLine = false →
      s.cfg.straps.lev = some d →
      s.active = false →
      ∃ t, exec .levelStatusTimerExpiry s = .next t ∧ t.now = (reach s.lvc.statusDue s).now ∧
      t.lvc = { s.lvc with statusDue := s.lvc.statusDue + 100 } ∧ KeepsAllBut [.now, .lvc] s t) ∧
  (∀ (s : State),
      s.cfg.straps.lev = none →
      exec .levelStatusTimerExpiry s = .next s) ∧
  (∀ (s : State) (d : Side),
      s.resetLine = false →
      s.cfg.straps.feed = some d →
      s.active = true →
      ∃ t, exec .feedStatusTimerExpiry s = .next t ∧ t.now = (reach s.fdc.statusDue s).now ∧
      t.fdc = { s.fdc with statusDue := s.fdc.statusDue + 200 } ∧
      WaitsInP t (.feedStatus
        { side := sideCode d, mode := feedModeCode s.fdc.mode, starved := s.fdc.starved,
          degraded := s.fdc.degraded, level := if let some l := s.fdc.judged then l.toNat else 65535 }
        s.fdc.conveyor.toNat) ∧
      (∀ f ∈ t.lnk.pList, f.body.pClass = 20 → f.body = .feedStatus
        { side := sideCode d, mode := feedModeCode s.fdc.mode, starved := s.fdc.starved,
          degraded := s.fdc.degraded, level := if let some l := s.fdc.judged then l.toNat else 65535 }
        s.fdc.conveyor.toNat) ∧
      (s.lnk.slotP.isSome = true → t.lnk.slotP = s.lnk.slotP) ∧ t.lnk.slotU = s.lnk.slotU ∧ t.lnk.uList = s.lnk.uList ∧
          LinkStands s t ∧ KeepsAllBut [.now, .fdc, .lnk] s t) ∧
  (∀ (s : State) (d : Side),
      s.resetLine = false →
      s.cfg.straps.feed = some d →
      s.active = false →
      ∃ t, exec .feedStatusTimerExpiry s = .next t ∧ t.now = (reach s.fdc.statusDue s).now ∧
      t.fdc = { s.fdc with statusDue := s.fdc.statusDue + 200 } ∧ KeepsAllBut [.now, .fdc] s t) ∧
  (∀ (s : State),
      s.cfg.straps.feed = none →
      exec .feedStatusTimerExpiry s = .next s)

/-- With the reset line released, u the state at the expiry, the node time carried there (log 2) and the timer running
    on from its last moment (log 31), L the level when no more than 300 ms old. Without the FEED strap only the timer
    runs on. Otherwise L and the paddle are judged, L to stand until the next evaluation (log 35), and the degraded
    flag is set exactly while L is invalid. OFF does no more. In AUTO event 18 is counted while L is invalid; in
    FEEDING, and in RUN-ON while the chamber is not full, the conveyor duty follows the level law of R121 (rounded
    half up between the bounds) or the paddle, and the auger duty is the conveyor's times the ratio, rounded and held
    at 1000; in RUN-ON with the chamber full the phase is IDLE with both duties 0 and no run-on; in IDLE the duties
    stand. In MANUAL the duties stand. In MANUAL and AUTO starvation is then judged on the conveyor duty: the flag,
    the timer and event 17 as R125 and R126 say, source 6 at a change. RUN_ON_EXPIRY with a run-on running to x makes
    the phase IDLE with both duties 0 at that moment; with none nothing happens. -/
def Obligations.FeedEvaluationFormsDuties : Prop :=
  (∀ (s : State) (p : Bool),
      s.resetLine = false →
      s.cfg.straps.feed = none →
      ∃ t, exec (.feedEvaluation p) s = .next t ∧ t.now = (reach s.fdc.evalDue s).now ∧
      t.fdc = { s.fdc with evalDue := s.fdc.evalDue + 100 } ∧ KeepsAllBut [.now, .fdc] s t) ∧
  (∀ (s u : State) (p : Bool) (L : Option Int),
      s.resetLine = false →
      s.cfg.straps.feed.isSome = true →
      u = (reach s.fdc.evalDue s).setFdc { s.fdc with evalDue := s.fdc.evalDue + 100 } →
      L = (s.fdc.level.bind fun x => if u.age x.2 ≤ 300 then some x.1 else none) →
      s.fdc.mode = .off →
      ∃ t, exec (.feedEvaluation p) s = .next t ∧ t.now = u.now ∧
      t.fdc = { s.fdc with evalDue := s.fdc.evalDue + 100, judged := L, degraded := L.isNone, paddleClosed := p } ∧
          KeepsAllBut [.now, .fdc] s t) ∧
  (∀ (s u : State) (p : Bool) (L : Option Int),
      s.resetLine = false →
      s.cfg.straps.feed.isSome = true →
      u = (reach s.fdc.evalDue s).setFdc { s.fdc with evalDue := s.fdc.evalDue + 100 } →
      L = (s.fdc.level.bind fun x => if u.age x.2 ≤ 300 then some x.1 else none) →
      s.fdc.mode = .manual →
      ∃ t, exec (.feedEvaluation p) s = .next t ∧ t.now = u.now ∧
      t.fdc = { s.fdc with
        evalDue := s.fdc.evalDue + 100, judged := L, degraded := L.isNone, paddleClosed := p,
        starved := t.fdc.starved, starveSince := t.fdc.starveSince } ∧ StarvationJudged L p s.evc.counters u t ∧
      OnlyAlerts s t ∧ KeepsAllBut [.now, .fdc, .lnk, .evc, .alr] s t) ∧
  (∀ (s u : State) (p : Bool) (L : Option Int) (c : Int),
      s.resetLine = false →
      s.cfg.straps.feed.isSome = true →
      u = (reach s.fdc.evalDue s).setFdc { s.fdc with evalDue := s.fdc.evalDue + 100 } →
      L = (s.fdc.level.bind fun x => if u.age x.2 ≤ 300 then some x.1 else none) →
      s.fdc.mode = .auto →
      s.fdc.phase = some .feeding ∨ (s.fdc.phase = some .runOn ∧
        ((L = none ∧ p = false) ∨ (∃ l ∈ L, l < s.cfg.feedSetpoint))) →
      c = (match L with
        | some l => if s.cfg.feedSetpoint ≤ l then s.item 36
          else if l ≤ s.cfg.feedSetpoint - s.item 35 then 1000
          else s.item 36 + (2 * ((s.cfg.feedSetpoint - l) * (1000 - s.item 36)) + s.item 35) / (2 * s.item 35)
        | none => if p then s.item 36 else 1000) →
      ∃ t, exec (.feedEvaluation p) s = .next t ∧ t.now = u.now ∧
      t.fdc = { s.fdc with
        evalDue := s.fdc.evalDue + 100, judged := L, degraded := L.isNone, paddleClosed := p,
        conveyor := c, auger := min 1000 ((c * s.item 37 + 500) / 1000), starved := t.fdc.starved, starveSince :=
            t.fdc.starveSince } ∧
      StarvationJudged L p (if L = none then countAll .degradedEvaluation 0 1 u.now s.trv.index s.evc.counters
        else s.evc.counters) u t ∧
      OnlyAlerts s t ∧ KeepsAllBut [.now, .fdc, .lnk, .evc, .alr] s t) ∧
  (∀ (s u : State) (p : Bool) (L : Option Int),
      s.resetLine = false →
      s.cfg.straps.feed.isSome = true →
      u = (reach s.fdc.evalDue s).setFdc { s.fdc with evalDue := s.fdc.evalDue + 100 } →
      L = (s.fdc.level.bind fun x => if u.age x.2 ≤ 300 then some x.1 else none) →
      s.fdc.mode = .auto →
      s.fdc.phase = some .runOn →
      (L = none ∧ p = true) ∨ (∃ l ∈ L, s.cfg.feedSetpoint ≤ l) →
      ∃ t, exec (.feedEvaluation p) s = .next t ∧ t.now = u.now ∧
      t.fdc = { s.fdc with
        evalDue := s.fdc.evalDue + 100, judged := L, degraded := L.isNone, paddleClosed := p,
        phase := some .idle, runOn := none, conveyor := 0, auger := 0, starved := t.fdc.starved, starveSince :=
            t.fdc.starveSince } ∧
      StarvationJudged L p (if L = none then countAll .degradedEvaluation 0 1 u.now s.trv.index s.evc.counters
        else s.evc.counters) u t ∧
      OnlyAlerts s t ∧ KeepsAllBut [.now, .fdc, .lnk, .evc, .alr] s t) ∧
  (∀ (s u : State) (p : Bool) (L : Option Int),
      s.resetLine = false →
      s.cfg.straps.feed.isSome = true →
      u = (reach s.fdc.evalDue s).setFdc { s.fdc with evalDue := s.fdc.evalDue + 100 } →
      L = (s.fdc.level.bind fun x => if u.age x.2 ≤ 300 then some x.1 else none) →
      s.fdc.mode = .auto →
      s.fdc.phase = some .idle →
      ∃ t, exec (.feedEvaluation p) s = .next t ∧ t.now = u.now ∧
      t.fdc = { s.fdc with
        evalDue := s.fdc.evalDue + 100, judged := L, degraded := L.isNone, paddleClosed := p,
        starved := t.fdc.starved, starveSince := t.fdc.starveSince } ∧
      StarvationJudged L p (if L = none then countAll .degradedEvaluation 0 1 u.now s.trv.index s.evc.counters
        else s.evc.counters) u t ∧
      OnlyAlerts s t ∧ KeepsAllBut [.now, .fdc, .lnk, .evc, .alr] s t) ∧
  (∀ (s : State) (x : Time),
      s.resetLine = false →
      s.fdc.runOn = some x →
      ∃ t, exec .runOnExpiry s = .next t ∧ t.now = (reach x s).now ∧
      t.fdc = { s.fdc with phase := some .idle, runOn := none, conveyor := 0, auger := 0 } ∧
      KeepsAllBut [.now, .fdc] s t) ∧
  (∀ (s : State),
      s.fdc.runOn = none →
      exec .runOnExpiry s = .next s)

/-- With the reset line released, a sweep of twelve readings restarts the sweep timeout and counts event 23 once for
    each reading flagged or outside -20.0..300.0 degrees; the job time flag is set at 1677721500 ms. With a valid
    reading source 10 is absent; with none the sweep is empty and source 10 present. While accumulating in RUN or HALT
    each valid reading enters its lane (below 65535 samples the count rises by 1 and the sum by the reading, from
    65535 on neither does; minimum and maximum follow always), and NOT_READY, STARVED, LEVEL_MANUAL, STOPPED, REVERSED
    and HALT are raised as they hold, with SCANNER_FAULT at an empty sweep; otherwise lanes and flags stand.
    SWEEP_TIMEOUT is an empty sweep at the timeout's moment without event 23. The timeout's moment is log 2. A term
    without twelve readings is no sweep and stops (log 19). A lane's mean is its rounded average in whole degrees, 0
    below and 254 above, 255 without samples. The record built at a close holds 33 bytes of the layout of 11.9, its
    job time 0 where there is no job start time (the model's choice, log 36). -/
def Obligations.SweepFillsLanesAndJudgesFlags : Prop :=
  (∀ (s : State) (readings : List (Option Int)) (n : Nat),
      s.resetLine = false →
      readings.length = 12 →
      n = (readings.filter fun r => !(r.any fun v => decide (-200 ≤ v ∧ v ≤ 3000))).length →
      n < 12 →
      s.msi.accumulating = true →
      s.cfg.node ≠ .setup →
      ∃ t, exec (.sweepArrival readings) s = .next t ∧
      t.msi = { s.msi with
        sweepDue := s.now + 300, jobSat := s.msi.jobSat || (s.msi.accumulating && s.msi.jobStart.any fun x => decide
            (1677721500 ≤ s.age x)), lanes := t.msi.lanes,
        flags := s.msi.flags ||| (if s.zht.ready then 0 else bit 0) ||| (if feedStarved s then bit 2 else 0) |||
          (if levellingAuto s then 0 else bit 3) |||
          (if s.trv.state = .stopped ∨ s.trv.state = .unknown then bit 4 else 0) |||
          (if s.trv.state = .reversing then bit 5 else 0) ||| (if s.cfg.node = .halt then bit 8 else 0) } ∧
      (∀ i : Fin 12, t.msi.lanes[i] = (match readings.getD i none with
        | none => s.msi.lanes[i]
        | some r => if r < -200 ∨ 3000 < r then s.msi.lanes[i]
          else { count := if s.msi.lanes[i].count < 65535 then s.msi.lanes[i].count + 1 else s.msi.lanes[i].count,
                 sum := if s.msi.lanes[i].count < 65535 then s.msi.lanes[i].sum + r else s.msi.lanes[i].sum,
                 min := some (min r (s.msi.lanes[i].min.getD r)), max := some (max r (s.msi.lanes[i].max.getD r)) })) ∧
      ¬isPresent t .scanner ∧ Counts .invalidLane 0 n s.now s.trv.index s t ∧ OnlyAlerts s t ∧
          KeepsAllBut [.msi, .lnk, .evc, .alr] s t) ∧
  (∀ (s : State) (readings : List (Option Int)) (n : Nat),
      s.resetLine = false →
      readings.length = 12 →
      n = (readings.filter fun r => !(r.any fun v => decide (-200 ≤ v ∧ v ≤ 3000))).length →
      n < 12 →
      s.msi.accumulating = false ∨ s.cfg.node = .setup →
      ∃ t, exec (.sweepArrival readings) s = .next t ∧
      t.msi = { s.msi with
        sweepDue := s.now + 300, jobSat := s.msi.jobSat || (s.msi.accumulating && s.msi.jobStart.any fun x => decide
            (1677721500 ≤ s.age x)) } ∧
      ¬isPresent t .scanner ∧ Counts .invalidLane 0 n s.now s.trv.index s t ∧ OnlyAlerts s t ∧
          KeepsAllBut [.msi, .lnk, .evc, .alr] s t) ∧
  (∀ (s : State) (readings : List (Option Int)),
      s.resetLine = false →
      readings.length = 12 →
      (∀ r ∈ readings, ∀ v ∈ r, v < -200 ∨ 3000 < v) →
      ∃ t, exec (.sweepArrival readings) s = .next t ∧
      t.msi = { s.msi with
        sweepDue := s.now + 300, jobSat := s.msi.jobSat || (s.msi.accumulating && s.msi.jobStart.any fun x => decide
            (1677721500 ≤ s.age x)),
        flags := if s.msi.accumulating = true ∧ s.cfg.node ≠ .setup then s.msi.flags ||| bit 7 |||
          (if s.zht.ready then 0 else bit 0) ||| (if feedStarved s then bit 2 else 0) |||
          (if levellingAuto s then 0 else bit 3) |||
          (if s.trv.state = .stopped ∨ s.trv.state = .unknown then bit 4 else 0) |||
          (if s.trv.state = .reversing then bit 5 else 0) ||| (if s.cfg.node = .halt then bit 8 else 0) else
              s.msi.flags } ∧
      isPresent t .scanner ∧ Counts .invalidLane 0 12 s.now s.trv.index s t ∧ OnlyAlerts s t ∧
          KeepsAllBut [.msi, .lnk, .evc, .alr] s t) ∧
  (∀ (s u : State),
      s.resetLine = false →
      u = reach s.msi.sweepDue s →
      ∃ t, exec .sweepTimeout s = .next t ∧ t.now = u.now ∧
      t.msi = { s.msi with
        sweepDue := u.now + 300, jobSat := s.msi.jobSat || (s.msi.accumulating && s.msi.jobStart.any fun x => decide
            (1677721500 ≤ u.age x)),
        flags := if s.msi.accumulating = true ∧ s.cfg.node ≠ .setup then s.msi.flags ||| bit 7 |||
          (if u.zht.ready then 0 else bit 0) ||| (if feedStarved u then bit 2 else 0) |||
          (if levellingAuto u then 0 else bit 3) |||
          (if u.trv.state = .stopped ∨ u.trv.state = .unknown then bit 4 else 0) |||
          (if u.trv.state = .reversing then bit 5 else 0) ||| (if u.cfg.node = .halt then bit 8 else 0) else
              s.msi.flags } ∧
      isPresent t .scanner ∧ OnlyAlerts s t ∧ KeepsAllBut [.now, .msi, .lnk, .alr] s t) ∧
  (∀ (s : State) (readings : List (Option Int)),
      readings.length ≠ 12 →
      exec (.sweepArrival readings) s = .fault .illFormed) ∧
  (∀ (l : Lane),
      l.mean = (if l.count = 0 then 255 else if l.sum + 5 * l.count < 0 then 0
        else min 254 ((l.sum + 5 * l.count) / (10 * l.count)).toNat)) ∧
  (∀ (s : State) (span : Nat) (b : List Byte),
      b = buildRecord span s →
      span < 256 →
      s.msi.openIndex ≤ max24 →
      0 ≤ s.cfg.width →
      s.cfg.width ≤ 5500 →
      s.msi.jobSat = true ∨ (s.msi.jobStart.all fun x => decide (s.age x < 1677721500)) = true →
      b.length = 33 ∧ seq24 (b.getD 0 0) (b.getD 1 0) (b.getD 2 0) = s.ring.nextSeq ∧
      (seq24 (b.getD 3 0) (b.getD 4 0) (b.getD 5 0)).toNat = s.msi.openIndex ∧ (b.getD 6 0).toNat = span ∧
      b.getD 7 0 = s.ring.job ∧ (b.getD 8 0).toNat = s.cfg.straps.bay ∧
      (u16 (b.getD 9 0) (b.getD 10 0) : Int) = (s.cfg.width + 5) / 10 ∧
      (∀ i : Fin 12, (b.getD (11 + i) 0).toNat = s.msi.lanes[i].mean ∧
        (hasBit (set16 (b.getD 25 0) (b.getD 26 0)) i = true ↔
          s.msi.lanes[i].mean ≠ 255 ∧ (s.msi.lanes[i].mean : Int) < s.item 41)) ∧
      set16 (b.getD 27 0) (b.getD 28 0) = s.msi.flags ∧ (b.getD 29 0).toNat = min 255 (s.trv.stopMs / 1000) ∧
      set16 (b.getD 25 0) (b.getD 26 0) &&& 0xF000#16 = 0 ∧
      (b.getD 23 0).toNat = degreesOrNone (lowestMinimum s.msi.lanes.toList) ∧
      (b.getD 24 0).toNat = degreesOrNone (highestMaximum s.msi.lanes.toList) ∧
      (seq24 (b.getD 30 0) (b.getD 31 0) (b.getD 32 0)).toNat =
        (if s.msi.jobSat then 16777215 else (s.msi.jobStart.map fun x => s.age x / 100).getD 0))

/-- With the reset line released. LINE_IDLE in ACTIVE begins the frame of the occupied slot with the smallest local
    priority item, equal items ranking U, P, B; with none, or in LISTEN-ONLY, the line is idle. ARBITRATION_LOST keeps
    the frame in its slot and counts event 2 with the winner. TRANSMIT_ERROR keeps it, counts event 3 with its
    destination and adds 8 to the tally below 128; at 128 or more every slot and list is empty, LISTEN-ONLY runs for
    2000 ms, source 9 is present, every element is off with ON zones IDLE and a CLAIMING zone WANT, the claim
    abandoned without event or back-off, before the report of the draw (the model's choice, log 49), no DEMAND queued.
    LISTEN_ONLY_TIMER_EXPIRY makes the link ACTIVE with tally 64, source 9 absent and a DEMAND waiting. A command
    about the frame being sent while none is sent and none waits takes the line for idle and does nothing else (the
    model's choice, log 7). The timer's end is at its moment (log 2). -/
def Obligations.LineAndTransmitErrors : Prop :=
  (∀ (s : State) (x : Slot),
      s.resetLine = false →
      s.active = true →
      (s.lnk.slot x).isSome = true →
      (∀ y, (s.lnk.slot y).isSome = true →
        s.priority x < s.priority y ∨ (s.priority x = s.priority y ∧ slotRank x ≤ slotRank y)) →
      ∃ t, exec .lineIdle s = .next t ∧ t.lnk = { s.lnk with lineIdle := false, sending := some x } ∧
          KeepsAllBut [.lnk] s t) ∧
  (∀ (s : State),
      s.resetLine = false →
      (s.active = false ∨ ∀ y, s.lnk.slot y = none) →
      ∃ t, exec .lineIdle s = .next t ∧ t.lnk = { s.lnk with lineIdle := true, sending := none } ∧
          KeepsAllBut [.lnk] s t) ∧
  (∀ (s : State) (winner : Addr) (x : Slot),
      s.resetLine = false →
      s.lnk.sending = some x →
      (s.lnk.slot x).isSome = true →
      ∃ t, exec (.arbitrationLost winner) s = .next t ∧ t.lnk.sending = none ∧ t.lnk.lineIdle = false ∧
      Counts .arbitrationLost winner 1 s.now s.trv.index s t ∧ OnlyAlerts s t ∧ KeepsAllBut [.lnk, .evc, .alr] s t) ∧
  (∀ (s : State) (x : Slot) (f : Frame),
      s.resetLine = false →
      s.lnk.sending = some x →
      s.lnk.slot x = some f →
      s.lnk.tally + 8 < 128 →
      ∃ t, exec .transmitError s = .next t ∧ t.lnk.sending = none ∧ t.lnk.lineIdle = false ∧
          t.lnk.tally = s.lnk.tally + 8 ∧
      t.lnk.listenUntil = s.lnk.listenUntil ∧ t.lnk.slotB = s.lnk.slotB ∧ t.lnk.resetPending = s.lnk.resetPending ∧
      QuietP s t ∧ OnlyAlertsJoin s t ∧ Counts .transmitError f.dst 1 s.now s.trv.index s t ∧
          KeepsAllBut [.lnk, .evc, .alr] s t) ∧
  (∀ (s : State) (x : Slot) (f : Frame),
      s.resetLine = false →
      s.lnk.sending = some x →
      s.lnk.slot x = some f →
      128 ≤ s.lnk.tally + 8 →
      ∃ t, exec .transmitError s = .next t ∧ t.lnk.tally = s.lnk.tally + 8 ∧ t.lnk.listenUntil = some (s.now + 2000) ∧
      queuedU t = [] ∧ t.lnk.slotP = none ∧ t.lnk.pList = [] ∧ t.lnk.slotB = none ∧ t.lnk.sending = none ∧
      t.lnk.resetPending = s.lnk.resetPending ∧ isPresent t .listenOnly ∧
      (∀ z, t.zone z = { s.zone z with
        element := false, lowCount := 0,
        state := if (s.zone z).state = .on then .idle else if (s.zone z).state = .claiming then .want
          else (s.zone z).state }) ∧ t.zht = { s.zht with zones := t.zht.zones } ∧
      t.gsu = { s.gsu with ownDraw := 0, claim := none } ∧ Counts .transmitError f.dst 1 s.now s.trv.index s t ∧
      KeepsAllBut [.zht, .gsu, .lnk, .evc, .alr] s t) ∧
  (∀ (s : State) (x : Time),
      s.resetLine = false →
      s.lnk.listenUntil = some x →
      readyChannel s = none →
      ∃ t, exec .listenOnlyTimerExpiry s = .next t ∧ t.now = (reach x s).now ∧ t.lnk.listenUntil = none ∧
          t.lnk.tally = 64 ∧
      ¬isPresent t .listenOnly ∧ DemandWaits t ∧ t.lnk.slotB = s.lnk.slotB ∧ queuedU t = queuedU s ∧
      t.lnk.resetPending = s.lnk.resetPending ∧
      t.gsu = { s.gsu with reported := reportNow t, periodDue := t.now + 500 } ∧
      t.alr = { s.alr with present := t.alr.present } ∧ KeepsAllBut [.now, .gsu, .lnk, .alr] s t) ∧
  (∀ (s : State),
      s.lnk.listenUntil = none →
      exec .listenOnlyTimerExpiry s = .next s) ∧
  (∀ (s : State) (winner : Addr) (c : Instr),
      c = .arbitrationLost winner ∨ c = .frameCarried ∨ c = .transmitError →
      s.resetLine = false →
      s.lnk.sending = none →
      (s.active = false ∨ ∀ y, s.lnk.slot y = none) →
      ∃ t, exec c s = .next t ∧ t.lnk = { s.lnk with lineIdle := true } ∧ KeepsAllBut [.lnk] s t)

/-- With the reset line released the line is busy after each of these. CHECK_FAILURE_HEARD, and any frame with more
    than 40 payload bytes (log 20), counts event 4 with item 15; SOURCE_15_FRAME, and any frame from source 15, does
    nothing; OWN_ADDRESS_HEARD, and any frame from the own address, counts event 4 with item 15 and makes source 12
    present; none of them writes an entry. OTHER_FRAME_HEARD writes the general part of its source's entry and no
    more, as does every request row while a NODE-RESET is pending. A request row of at most 40 bytes that finds the U
    list full or the link LISTEN-ONLY, and REQUEST_DROPPED then, writes the general part and counts event 7 with the
    requester; REQUEST_DROPPED with room writes the general part alone (the model's choice, log 18).
    UNASSIGNED_REQUEST of class 49..55 is answered UNKNOWN in every node state; a term of another class stops (log
    19). -/
def Obligations.FramesDiscardedOrDropped : Prop :=
  (∀ (s : State),
      s.resetLine = false →
      ∃ t, exec .checkFailureHeard s = .next t ∧ t.lnk.lineIdle = false ∧ t.lnk.sending = s.lnk.sending ∧
      Counts .checkFailure 15 1 s.now s.trv.index s t ∧ OnlyAlerts s t ∧ KeepsAllBut [.lnk, .evc, .alr] s t) ∧
  (∀ (s : State),
      s.resetLine = false →
      ∃ t, exec .source15Frame s = .next t ∧ OnlyLine s t ∧ KeepsAllBut [.lnk] s t) ∧
  (∀ (s : State),
      s.resetLine = false →
      ∃ t, exec .ownAddressHeard s = .next t ∧ t.lnk.lineIdle = false ∧ t.lnk.sending = s.lnk.sending ∧
      isPresent t .conflict ∧ Counts .checkFailure 15 1 s.now s.trv.index s t ∧ OnlyAlerts s t ∧
          KeepsAllBut [.lnk, .evc, .alr] s t) ∧
  (∀ (s : State) (c : Instr) (src : Addr) (payload : List Byte),
      heardOf c = some (src, payload) →
      s.resetLine = false →
      40 < payload.length →
      ∃ t, exec c s = .next t ∧ t.lnk.lineIdle = false ∧
      Counts .checkFailure 15 1 s.now s.trv.index s t ∧ OnlyAlerts s t ∧ KeepsAllBut [.lnk, .evc, .alr] s t) ∧
  (∀ (s : State) (c : Instr) (src : Addr) (payload : List Byte),
      heardOf c = some (src, payload) →
      s.resetLine = false →
      payload.length ≤ 40 →
      src = 15 →
      ∃ t, exec c s = .next t ∧ OnlyLine s t ∧ KeepsAllBut [.lnk] s t) ∧
  (∀ (s : State) (c : Instr) (src : Addr) (payload : List Byte),
      heardOf c = some (src, payload) →
      s.resetLine = false →
      payload.length ≤ 40 →
      src = s.self →
      ∃ t, exec c s = .next t ∧ t.lnk.lineIdle = false ∧ isPresent t .conflict ∧
      Counts .checkFailure 15 1 s.now s.trv.index s t ∧ OnlyAlerts s t ∧ KeepsAllBut [.lnk, .evc, .alr] s t) ∧
  (∀ (s : State) (src : Addr),
      Hears s src [] →
      ∃ t, exec (.otherFrameHeard src) s = .next t ∧
      t.ptb = { s.ptb with
        entries := s.ptb.entries.set src { s.entry src with heard := true, lastTime := some s.now, silent := false } } ∧
      OnlyLine s t ∧ KeepsAllBut [.ptb, .lnk] s t) ∧
  (∀ (s : State) (c : Instr) (src : Addr) (payload : List Byte) (q : Addr × Byte × List Byte),
      requestOf c = some q →
      heardOf c = some (src, payload) →
      Hears s src payload →
      s.lnk.resetPending.isSome = true →
      ∃ t, exec c s = .next t ∧
      t.ptb = { s.ptb with
        entries := s.ptb.entries.set src { s.entry src with heard := true, lastTime := some s.now, silent := false } } ∧
      OnlyLine s t ∧ KeepsAllBut [.ptb, .lnk] s t) ∧
  (∀ (s : State) (c : Instr) (src : Addr) (payload : List Byte) (q : Addr × Byte × List Byte),
      requestOf c = some q ∨ c = .requestDropped src →
      heardOf c = some (src, payload) →
      Hears s src payload →
      s.lnk.resetPending = none →
      canQueueU s = false →
      ∃ t, exec c s = .next t ∧
      t.ptb = { s.ptb with
        entries := s.ptb.entries.set src { s.entry src with heard := true, lastTime := some s.now, silent := false } } ∧
      t.lnk.lineIdle = false ∧ Counts .requestDropped src 1 s.now s.trv.index s t ∧ OnlyAlerts s t ∧
      KeepsAllBut [.ptb, .lnk, .evc, .alr] s t) ∧
  (∀ (s : State) (src : Addr),
      Hears s src [] →
      s.lnk.resetPending.isSome = true ∨ canQueueU s = true →
      ∃ t, exec (.requestDropped src) s = .next t ∧
      t.ptb = { s.ptb with
        entries := s.ptb.entries.set src { s.entry src with heard := true, lastTime := some s.now, silent := false } } ∧
      OnlyLine s t ∧ KeepsAllBut [.ptb, .lnk] s t) ∧
  (∀ (s : State) (cls : Nat) (src : Addr) (tag : Byte) (payload : List Byte),
      Takes s src payload →
      49 ≤ cls →
      cls ≤ 55 →
      ∃ t, exec (.unassignedRequest cls src tag payload) s = .next t ∧ Answered [] s t src tag .unknown .empty) ∧
  (∀ (s : State) (cls : Nat) (src : Addr) (tag : Byte) (payload : List Byte),
      cls < 49 ∨ 55 < cls →
      exec (.unassignedRequest cls src tag payload) s = .fault .illFormed)

/-- With the reset line released and a frame being sent that is not the REPLY to a NODE-RESET: the tally falls by 1
    (not below 0), event 1 is counted with the destination, the own entry's general part is written, and of a DEMAND,
    CLAIM, LEVEL-STATUS or FEED-STATUS its part, with the time. A DEMAND restarts the own DEMAND age; a CLAIM takes a
    QUEUED claim in flight into its window of 60 ms. The slot empties and takes the head of its list; ALERT frames
    that the count caused may stand behind slot U's list. Slot B, with no channel ready, is empty afterwards. The
    REPLY to a taken NODE-RESET starts the warm reset, which reads the straps afresh, the levels the pins then have
    being a free value (log 4). -/
def Obligations.FrameCarriedInFourSteps : Prop :=
  (∀ (s : State) (f : Frame) (d : Demand),
      s.resetLine = false →
      f.resets = false →
      s.lnk.sending = some .p →
      s.lnk.slotP = some f →
      f.body = .demand d →
      ∃ t, exec .frameCarried s = .next t ∧ t.lnk.tally = s.lnk.tally - 1 ∧ t.lnk.sending = none ∧
          t.lnk.lineIdle = false ∧
      t.lnk.listenUntil = s.lnk.listenUntil ∧ t.lnk.resetPending = s.lnk.resetPending ∧
      Counts .frameSent f.dst 1 s.now s.trv.index s t ∧ t.lnk.slotP = s.lnk.pList.head? ∧
          t.lnk.pList = s.lnk.pList.tail ∧ OnlyAlertsJoin s t ∧ t.lnk.slotB = s.lnk.slotB ∧
      t.ptb = { s.ptb with
        entries := s.ptb.entries.set s.self { s.entry s.self with heard := true, lastTime := some s.now,
                                                                  silent := false, heating := some (d, s.now) } } ∧
      t.gsu = { s.gsu with lastCarried := some s.now } ∧ KeepsAllBut [.lnk, .ptb, .gsu, .evc, .alr] s t) ∧
  (∀ (s : State) (f : Frame) (c : Claim) (o : OwnClaim),
      s.resetLine = false →
      f.resets = false →
      s.lnk.sending = some .u →
      s.lnk.slotU = some f →
      f.body = .claim c →
      s.gsu.claim = some o →
      o.window = none →
      ∃ t, exec .frameCarried s = .next t ∧ t.lnk.tally = s.lnk.tally - 1 ∧ t.lnk.sending = none ∧
          t.lnk.lineIdle = false ∧
      t.lnk.listenUntil = s.lnk.listenUntil ∧ t.lnk.resetPending = s.lnk.resetPending ∧
      Counts .frameSent f.dst 1 s.now s.trv.index s t ∧ (queuedU t).take ((queuedU s).length - 1) = (queuedU s).drop 1
          ∧ AlertsBehind ((queuedU s).length - 1) t ∧
      QuietP s t ∧ t.lnk.slotB = s.lnk.slotB ∧
      t.ptb = { s.ptb with
        entries := s.ptb.entries.set s.self { s.entry s.self with heard := true, lastTime := some s.now,
                                                                  silent := false, claim := some (c, s.now) } } ∧
      t.gsu = { s.gsu with claim := some { o with window := some (s.now + 60) } } ∧
      KeepsAllBut [.lnk, .ptb, .gsu, .evc, .alr] s t) ∧
  (∀ (s : State) (f : Frame) (c : Claim),
      s.resetLine = false →
      f.resets = false →
      s.lnk.sending = some .u →
      s.lnk.slotU = some f →
      f.body = .claim c →
      (s.gsu.claim.all fun o => o.window.isSome) = true →
      ∃ t, exec .frameCarried s = .next t ∧ t.lnk.tally = s.lnk.tally - 1 ∧ t.lnk.sending = none ∧
          t.lnk.lineIdle = false ∧
      t.lnk.listenUntil = s.lnk.listenUntil ∧ t.lnk.resetPending = s.lnk.resetPending ∧
      Counts .frameSent f.dst 1 s.now s.trv.index s t ∧ (queuedU t).take ((queuedU s).length - 1) = (queuedU s).drop 1
          ∧ AlertsBehind ((queuedU s).length - 1) t ∧
      QuietP s t ∧ t.lnk.slotB = s.lnk.slotB ∧
      t.ptb = { s.ptb with
        entries := s.ptb.entries.set s.self { s.entry s.self with heard := true, lastTime := some s.now,
                                                                  silent := false, claim := some (c, s.now) } } ∧
      KeepsAllBut [.lnk, .ptb, .evc, .alr] s t) ∧
  (∀ (s : State) (f : Frame) (l : LevelStatus),
      s.resetLine = false →
      f.resets = false →
      s.lnk.sending = some .p →
      s.lnk.slotP = some f →
      f.body = .levelStatus l →
      ∃ t, exec .frameCarried s = .next t ∧ t.lnk.tally = s.lnk.tally - 1 ∧ t.lnk.sending = none ∧
          t.lnk.lineIdle = false ∧
      t.lnk.listenUntil = s.lnk.listenUntil ∧ t.lnk.resetPending = s.lnk.resetPending ∧
      Counts .frameSent f.dst 1 s.now s.trv.index s t ∧ t.lnk.slotP = s.lnk.pList.head? ∧
          t.lnk.pList = s.lnk.pList.tail ∧ OnlyAlertsJoin s t ∧ t.lnk.slotB = s.lnk.slotB ∧
      t.ptb = { s.ptb with
        entries := s.ptb.entries.set s.self { s.entry s.self with heard := true, lastTime := some s.now,
                                                                  silent := false, level := some (l, s.now) } } ∧
      KeepsAllBut [.lnk, .ptb, .evc, .alr] s t) ∧
  (∀ (s : State) (f : Frame) (p : FeedPart) (v : Nat),
      s.resetLine = false →
      f.resets = false →
      s.lnk.sending = some .p →
      s.lnk.slotP = some f →
      f.body = .feedStatus p v →
      ∃ t, exec .frameCarried s = .next t ∧ t.lnk.tally = s.lnk.tally - 1 ∧ t.lnk.sending = none ∧
          t.lnk.lineIdle = false ∧
      t.lnk.listenUntil = s.lnk.listenUntil ∧ t.lnk.resetPending = s.lnk.resetPending ∧
      Counts .frameSent f.dst 1 s.now s.trv.index s t ∧ t.lnk.slotP = s.lnk.pList.head? ∧
          t.lnk.pList = s.lnk.pList.tail ∧ OnlyAlertsJoin s t ∧ t.lnk.slotB = s.lnk.slotB ∧
      t.ptb = { s.ptb with
        entries := s.ptb.entries.set s.self { s.entry s.self with heard := true, lastTime := some s.now,
                                                                  silent := false, feed := some (p, s.now) } } ∧
      KeepsAllBut [.lnk, .ptb, .evc, .alr] s t) ∧
  (∀ (s : State) (f : Frame) (c : ColdSpot),
      s.resetLine = false →
      f.resets = false →
      s.lnk.sending = some .p →
      s.lnk.slotP = some f →
      f.body = .coldSpot c →
      ∃ t, exec .frameCarried s = .next t ∧ t.lnk.tally = s.lnk.tally - 1 ∧ t.lnk.sending = none ∧
          t.lnk.lineIdle = false ∧
      t.lnk.listenUntil = s.lnk.listenUntil ∧ t.lnk.resetPending = s.lnk.resetPending ∧
      Counts .frameSent f.dst 1 s.now s.trv.index s t ∧ t.lnk.slotP = s.lnk.pList.head? ∧
          t.lnk.pList = s.lnk.pList.tail ∧ OnlyAlertsJoin s t ∧ t.lnk.slotB = s.lnk.slotB ∧
      t.ptb = { s.ptb with
        entries := s.ptb.entries.set s.self { s.entry s.self with heard := true, lastTime := some s.now,
                                                                  silent := false } } ∧
      KeepsAllBut [.lnk, .ptb, .evc, .alr] s t) ∧
  (∀ (s : State) (f : Frame) (a : AlertNotice) (code : ReplyCode) (k : Content),
      s.resetLine = false →
      f.resets = false →
      s.lnk.sending = some .u →
      s.lnk.slotU = some f →
      f.body = .alert a ∨ f.body = .reply code k →
      ∃ t, exec .frameCarried s = .next t ∧ t.lnk.tally = s.lnk.tally - 1 ∧ t.lnk.sending = none ∧
          t.lnk.lineIdle = false ∧
      t.lnk.listenUntil = s.lnk.listenUntil ∧ t.lnk.resetPending = s.lnk.resetPending ∧
      Counts .frameSent f.dst 1 s.now s.trv.index s t ∧ (queuedU t).take ((queuedU s).length - 1) = (queuedU s).drop 1
          ∧ AlertsBehind ((queuedU s).length - 1) t ∧
      QuietP s t ∧ t.lnk.slotB = s.lnk.slotB ∧
      t.ptb = { s.ptb with
        entries := s.ptb.entries.set s.self { s.entry s.self with heard := true, lastTime := some s.now,
                                                                  silent := false } } ∧
      KeepsAllBut [.lnk, .ptb, .evc, .alr] s t) ∧
  (∀ (s : State) (f : Frame),
      s.resetLine = false →
      f.resets = false →
      s.lnk.sending = some .b →
      s.lnk.slotB = some f →
      f.body.pClass = 0 →
      f.body.frameClass = 56 ∨ f.body.frameClass = 57 ∨ f.body.frameClass = 58 ∨ f.body.frameClass = 59 →
      readyChannel s = none →
      ∃ t, exec .frameCarried s = .next t ∧ t.lnk.tally = s.lnk.tally - 1 ∧ t.lnk.sending = none ∧
          t.lnk.lineIdle = false ∧
      t.lnk.listenUntil = s.lnk.listenUntil ∧ t.lnk.resetPending = s.lnk.resetPending ∧
      Counts .frameSent f.dst 1 s.now s.trv.index s t ∧ t.lnk.slotB = none ∧ QuietP s t ∧ OnlyAlertsJoin s t ∧
      t.ptb = { s.ptb with
        entries := s.ptb.entries.set s.self { s.entry s.self with heard := true, lastTime := some s.now,
                                                                  silent := false } } ∧
      KeepsAllBut [.lnk, .ptb, .evc, .alr] s t) ∧
  (∀ (s : State) (f : Frame) (x : Slot),
      s.resetLine = false →
      s.lnk.sending = some x →
      s.lnk.slot x = some f →
      f.resets = true →
      exec .frameCarried s =
        exec (.warmReset (Config.strapLevels s.strapReadings)) (s.setStrapReadings (s.strapReadings + 1)))

/-- With slot B's readout frame carried in ACTIVE, n the lowest-numbered channel with a frame ready and c its context,
    slot B holds at once its frame, addressed to its owner with tag n, no other channel moves, and c steps. HEADERS:
    the header numbered header count - headers remaining, the remaining headers falling by 1; at 0 it is RECORDS and
    judged. RECORDS with its seq held and every parity agreeing (even parity is the model's choice, log 9): the RECORD
    as stored, one seq further, one record more, then judged. With a parity failure: a VOID DAMAGED of that seq, one
    seq further, one void more (held at 16777215), event 22 then event 21 with the channel, and the memory check's
    capture and pending flag, or its overflow flag. With its seq not held: a VOID LAPPED to the oldest seq, cut at the
    remaining of a bounded channel, event 21 by their number. CLOSING: the CLOSE, then IDLE without owner. Judging
    closes an exhausted channel (one without a CLOSE then has no owner, log 24) or reloads a cyclic one, and puts one
    that has caught up into WAIT. -/
def Obligations.ChannelStepFormsFrame : Prop :=
  (∀ (s : State) (f : Frame) (n : Fin 4) (c : Channel),
      s.resetLine = false →
      s.active = true →
      s.lnk.sending = some .b →
      s.lnk.slotB = some f →
      f.resets = false →
      f.body.frameClass = 56 ∨ f.body.frameClass = 57 ∨ f.body.frameClass = 58 ∨ f.body.frameClass = 59 →
      readyChannel s = some n →
      c = s.channel n →
      c.state = .headers →
      1 ≤ c.headersLeft →
      ∃ t, exec .frameCarried s = .next t ∧
      t.lnk.slotB = some { dst := c.owner.getD 15, tag := BitVec.ofNat 8 n,
                           body := headerBody s (c.headerCount - c.headersLeft), resets := false } ∧
      t.channel n = (if c.headersLeft = 1 then ({ c with headersLeft := 0, state := .records } : Channel).judged
          s.ring.nextSeq
        else { c with headersLeft := c.headersLeft - 1 }) ∧
      (∀ m, m ≠ n → t.channel m = s.channel m) ∧ KeepsAllBut [.lnk, .ptb, .rdu, .evc, .alr] s t) ∧
  (∀ (s : State) (f : Frame) (n : Fin 4) (c : Channel),
      s.resetLine = false →
      s.active = true →
      s.lnk.sending = some .b →
      s.lnk.slotB = some f →
      f.resets = false →
      f.body.frameClass = 56 ∨ f.body.frameClass = 57 ∨ f.body.frameClass = 58 ∨ f.body.frameClass = 59 →
      readyChannel s = some n →
      c = s.channel n →
      c.state = .records →
      s.ring.holds c.next = true →
      parityHolds (s.ring.read (slotOf c.next)) = true →
      ∃ t, exec .frameCarried s = .next t ∧
      t.lnk.slotB = some { dst := c.owner.getD 15, tag := BitVec.ofNat 8 n,
                           body := .record (s.ring.read (slotOf c.next)).bytes, resets := false } ∧
      t.channel n = ({ c with
        next := c.next + 1, remaining := if c.count = 0 ∧ c.cyclic = true then c.remaining else c.remaining - 1,
        recordsSent := min 16777215 (c.recordsSent + 1) } : Channel).judged s.ring.nextSeq ∧
      (∀ m, m ≠ n → t.channel m = s.channel m) ∧ KeepsAllBut [.lnk, .ptb, .rdu, .evc, .alr] s t) ∧
  (∀ (s : State) (f : Frame) (n : Fin 4) (c : Channel),
      s.resetLine = false →
      s.active = true →
      s.lnk.sending = some .b →
      s.lnk.slotB = some f →
      f.resets = false →
      f.body.frameClass = 56 ∨ f.body.frameClass = 57 ∨ f.body.frameClass = 58 ∨ f.body.frameClass = 59 →
      readyChannel s = some n →
      c = s.channel n →
      c.state = .records →
      s.ring.holds c.next = true →
      parityHolds (s.ring.read (slotOf c.next)) = false →
      ∃ t, exec .frameCarried s = .next t ∧
      t.lnk.slotB = some { dst := c.owner.getD 15, tag := BitVec.ofNat 8 n, body := .void .damaged c.next c.next,
                           resets := false } ∧
      t.channel n = ({ c with
        next := c.next + 1, remaining := if c.count = 0 ∧ c.cyclic = true then c.remaining else c.remaining - 1,
        voidsSent := min 16777215 (c.voidsSent + 1) } : Channel).judged s.ring.nextSeq ∧
      (∀ m, m ≠ n → t.channel m = s.channel m) ∧
      t.mck = (if s.mck.pending then { s.mck with overflow := true }
        else { s.mck with
          pending := true,
          capture := some { slot := slotOf c.next, seq := c.next, reader := n, time := s.now,
                            index := s.trv.index } }) ∧
      (s.mck.pending = false → isPresent t .checkPending) ∧
      t.evc.counters = countAll .voidSent n 1 s.now s.trv.index (countAll .parityFailure n 1 s.now s.trv.index
        (countAll .frameSent f.dst 1 s.now s.trv.index s.evc.counters)) ∧
      KeepsAllBut [.lnk, .ptb, .rdu, .mck, .evc, .alr] s t) ∧
  (∀ (s : State) (f : Frame) (n : Fin 4) (c : Channel) (k : Nat),
      s.resetLine = false →
      s.active = true →
      s.lnk.sending = some .b →
      s.lnk.slotB = some f →
      f.resets = false →
      f.body.frameClass = 56 ∨ f.body.frameClass = 57 ∨ f.body.frameClass = 58 ∨ f.body.frameClass = 59 →
      readyChannel s = some n →
      c = s.channel n →
      c.state = .records →
      s.ring.holds c.next = false →
      k = (if ¬(c.count = 0 ∧ c.cyclic = true) ∧ c.remaining < (s.ring.oldest - c.next).toNat then c.remaining
        else (s.ring.oldest - c.next).toNat) →
      ∃ t, exec .frameCarried s = .next t ∧
      t.lnk.slotB = some { dst := c.owner.getD 15, tag := BitVec.ofNat 8 n,
                           body := .void .lapped c.next (c.next + BitVec.ofNat 24 k - 1), resets := false } ∧
      t.channel n = ({ c with
        next := c.next + BitVec.ofNat 24 k, remaining := if c.count = 0 ∧ c.cyclic = true then c.remaining else
            c.remaining - k,
        voidsSent := min 16777215 (c.voidsSent + k) } : Channel).judged s.ring.nextSeq ∧
      (∀ m, m ≠ n → t.channel m = s.channel m) ∧
      t.evc.counters = countAll .voidSent n k s.now s.trv.index
        (countAll .frameSent f.dst 1 s.now s.trv.index s.evc.counters) ∧
            KeepsAllBut [.lnk, .ptb, .rdu, .evc, .alr] s t) ∧
  (∀ (s : State) (f : Frame) (n : Fin 4) (c : Channel),
      s.resetLine = false →
      s.active = true →
      s.lnk.sending = some .b →
      s.lnk.slotB = some f →
      f.resets = false →
      f.body.frameClass = 56 ∨ f.body.frameClass = 57 ∨ f.body.frameClass = 58 ∨ f.body.frameClass = 59 →
      readyChannel s = some n →
      c = s.channel n →
      c.state = .closing →
      ∃ t, exec .frameCarried s = .next t ∧
      t.lnk.slotB = some { dst := c.owner.getD 15, tag := BitVec.ofNat 8 n,
                           body := .close c.status c.recordsSent c.voidsSent c.remaining, resets := false } ∧
      t.channel n = { c with state := .idle, owner := none } ∧ (∀ m, m ≠ n → t.channel m = s.channel m) ∧
          KeepsAllBut [.lnk, .ptb, .rdu, .evc, .alr] s t) ∧
  (∀ (c : Channel) (q : Seq),
      c.state = .records →
      (c.remaining = 0 → c.cyclic = false → c.closeFlag = false → c.status = .none →
        c.judged q = { c with state := .idle, owner := none, status := .complete }) ∧
      (c.remaining = 0 → c.cyclic = false → c.closeFlag = true →
        c.judged q = { c with state := .closing, status := .complete }) ∧
      (c.remaining ≠ 0 ∨ c.cyclic = true →
        c.judged q = { c with
          remaining := if c.remaining = 0 then c.count else c.remaining,
          state := if c.next = q then .wait else .records }))

/-- A frame heard from another station writes the general part of its source's entry; of its own length also its part,
    with the node time, a flag byte counting as set unless 0 (log 15); of another length nothing more. A DEMAND
    removes the source's claim from the GSU's view; u being that state, the node sheds in the five steps of R69 (event
    9 for a claim withdrawn, then event 11) if no hold-off runs, C exceeds G and it is the one chosen (by the present
    need before an own DEMAND is in the entry, log 14), source 3 then judged on the draw that leaves (log 23), and
    otherwise only source 3 is judged. A CLAIM enters the view. A LEVEL-STATUS of the node's own LEV side sets
    levelling OFF with a trial ended with CONFLICT and makes source 12 present; otherwise, in SLOPE, without a present
    partner in GRADE the node enters HOLD with PARTNER, with one that sent the frame the watch is set 301 ms on, and
    nothing else changes. A FEED-STATUS of the own FEED side sets feed OFF, both duties 0, the starved flag clear, and
    makes source 12 present. -/
def Obligations.BroadcastArrivalsActOnBlocks : Prop :=
  (∀ (s u : State) (src : Addr) (d1 d0 w n r m k : Byte) (d : Demand),
      Hears s src [d1, d0, w, n, r, m, k] →
      d = { draw := u16 d1 d0, want := w.toNat, need := n.toNat, ready := decide (r ≠ 0), mode := m.toNat,
            node := k.toNat } →
      u = setView src none (writeDemand src d (hear src (lineBusy s))) →
      u.gsu.holdOff.isSome = true ∨ overloaded u = false ∨ chosenToShed u ≠ some s.self →
      ∃ t, exec (.demandArrival src [d1, d0, w, n, r, m, k]) s = .next t ∧
      t.ptb = { s.ptb with
        entries := s.ptb.entries.set src { s.entry src with heard := true, lastTime := some s.now, silent := false,
                                                            heating := some (d, s.now) } } ∧
      t.gsu = { s.gsu with view := s.gsu.view.set src none } ∧ (isPresent t .overload ↔ overloaded t = true) ∧
      t.lnk.lineIdle = false ∧ OnlyAlerts s t ∧ KeepsAllBut [.ptb, .lnk, .gsu, .alr] s t) ∧
  (∀ (s u : State) (src : Addr) (d1 d0 w n r m k : Byte) (d : Demand) (z : ZoneId),
      Hears s src [d1, d0, w, n, r, m, k] →
      d = { draw := u16 d1 d0, want := w.toNat, need := n.toNat, ready := decide (r ≠ 0), mode := m.toNat,
            node := k.toNat } →
      u = setView src none (writeDemand src d (hear src (lineBusy s))) →
      u.gsu.holdOff = none →
      overloaded u = true →
      chosenToShed u = some s.self →
      shedZone u = some z →
      ∃ t, exec (.demandArrival src [d1, d0, w, n, r, m, k]) s = .next t ∧ Sheds z u t ∧
      t.ptb = { s.ptb with
        entries := s.ptb.entries.set src { s.entry src with heard := true, lastTime := some s.now, silent := false,
                                                            heating := some (d, s.now) } } ∧
      (∀ y, y ≠ z → (t.zone y).element = (s.zone y).element) ∧ OnlyBroadcasts s t ∧
      KeepsAllBut [.ptb, .lnk, .zht, .gsu, .msi, .evc, .alr] s t) ∧
  (∀ (s : State) (src : Addr) (z p n : Byte) (c : Claim),
      Hears s src [z, p, n] →
      c = { zone := z.toNat, power := p.toNat, need := n.toNat } →
      ∃ t, exec (.claimArrival src [z, p, n]) s = .next t ∧
      t.ptb = { s.ptb with
        entries := s.ptb.entries.set src { s.entry src with heard := true, lastTime := some s.now, silent := false,
                                                            claim := some (c, s.now) } } ∧
      t.gsu = { s.gsu with view := s.gsu.view.set src (some (c, s.now)) } ∧ OnlyLine s t ∧
          KeepsAllBut [.ptb, .lnk, .gsu] s t) ∧
  (∀ (s : State) (src : Addr) (side mode e1 e0 d1 d0 r k : Byte) (l : LevelStatus),
      Hears s src [side, mode, e1, e0, d1, d0, r, k] →
      l = {
        side := side.toNat, mode := mode.toNat, error := s16 e1 e0, duty := s16 d1 d0, refValid := decide (r ≠ 0),
        trial := decide (k ≠ 0) } →
      s.cfg.straps.lev.all (fun x => decide (l.side ≠ sideCode x)) = true →
      s.lvc.mode ≠ .slope →
      ∃ t, exec (.levelStatusArrival src [side, mode, e1, e0, d1, d0, r, k]) s = .next t ∧
      t.ptb = { s.ptb with
        entries := s.ptb.entries.set src { s.entry src with heard := true, lastTime := some s.now, silent := false,
                                                            level := some (l, s.now) } } ∧
      OnlyLine s t ∧ KeepsAllBut [.ptb, .lnk] s t) ∧
  (∀ (s : State) (src : Addr) (side mode e1 e0 d1 d0 r k : Byte) (l : LevelStatus) (own : Side),
      Hears s src [side, mode, e1, e0, d1, d0, r, k] →
      l = {
        side := side.toNat, mode := mode.toNat, error := s16 e1 e0, duty := s16 d1 d0, refValid := decide (r ≠ 0),
        trial := decide (k ≠ 0) } →
      s.cfg.straps.lev = some own →
      l.side = sideCode own →
      s.lvc.mode ≠ .off →
      ∃ t, exec (.levelStatusArrival src [side, mode, e1, e0, d1, d0, r, k]) s = .next t ∧
      t.ptb = { s.ptb with
        entries := s.ptb.entries.set src { s.entry src with heard := true, lastTime := some s.now, silent := false,
                                                            level := some (l, s.now) } } ∧
      t.lvc = { s.lvc with
        mode := .off, output := 0, slew := 0, lastError := 0, satRun := 0, paused := false, partnerWatch := none,
        jog := none, trial := none,
        capture := match s.lvc.trial with
          | some x => some (captureOf .conflict x s)
          | none => s.lvc.capture } ∧
      isPresent t .conflict ∧ t.lnk.lineIdle = false ∧ OnlyAlerts s t ∧ KeepsAllBut [.ptb, .lnk, .lvc, .alr] s t) ∧
  (∀ (s u : State) (src : Addr) (side mode e1 e0 d1 d0 r k : Byte) (l : LevelStatus) (own : Side) (a : Addr),
      Hears s src [side, mode, e1, e0, d1, d0, r, k] →
      l = {
        side := side.toNat, mode := mode.toNat, error := s16 e1 e0, duty := s16 d1 d0, refValid := decide (r ≠ 0),
        trial := decide (k ≠ 0) } →
      u = writeLevel src l (hear src (lineBusy s)) →
      s.cfg.straps.lev = some own →
      l.side ≠ sideCode own →
      s.lvc.mode = .slope →
      partnerInGrade u = true →
      (partner u).map (·.1) = some a →
      ∃ t, exec (.levelStatusArrival src [side, mode, e1, e0, d1, d0, r, k]) s = .next t ∧
      t.ptb = { s.ptb with
        entries := s.ptb.entries.set src { s.entry src with heard := true, lastTime := some s.now, silent := false,
                                                            level := some (l, s.now) } } ∧
      t.lvc = (if a = src then { s.lvc with partnerWatch := some (s.now + 301) } else s.lvc) ∧ OnlyLine s t ∧
      KeepsAllBut [.ptb, .lnk, .lvc] s t) ∧
  (∀ (s u : State) (src : Addr) (side mode e1 e0 d1 d0 r k : Byte) (l : LevelStatus) (own : Side),
      Hears s src [side, mode, e1, e0, d1, d0, r, k] →
      l = {
        side := side.toNat, mode := mode.toNat, error := s16 e1 e0, duty := s16 d1 d0, refValid := decide (r ≠ 0),
        trial := decide (k ≠ 0) } →
      u = writeLevel src l (hear src (lineBusy s)) →
      s.cfg.straps.lev = some own →
      l.side ≠ sideCode own →
      s.lvc.mode = .slope →
      partnerInGrade u = false →
      ∃ t, exec (.levelStatusArrival src [side, mode, e1, e0, d1, d0, r, k]) s = .next t ∧
      t.ptb = { s.ptb with
        entries := s.ptb.entries.set src { s.entry src with heard := true, lastTime := some s.now, silent := false,
                                                            level := some (l, s.now) } } ∧
      EntersHold .partner u t ∧ t.lnk.lineIdle = false ∧ OnlyAlerts s t ∧
      KeepsAllBut [.ptb, .lnk, .lvc, .evc, .alr] s t) ∧
  (∀ (s : State) (src : Addr) (side mode st dg l1 l0 c1 c0 : Byte) (f : FeedPart),
      Hears s src [side, mode, st, dg, l1, l0, c1, c0] →
      f = { side := side.toNat, mode := mode.toNat, starved := decide (st ≠ 0), degraded := decide (dg ≠ 0),
            level := u16 l1 l0 } →
      s.cfg.straps.feed.all (fun x => decide (f.side ≠ sideCode x)) = true →
      ∃ t, exec (.feedStatusArrival src [side, mode, st, dg, l1, l0, c1, c0]) s = .next t ∧
      t.ptb = { s.ptb with
        entries := s.ptb.entries.set src { s.entry src with heard := true, lastTime := some s.now, silent := false,
                                                            feed := some (f, s.now) } } ∧
      OnlyLine s t ∧ KeepsAllBut [.ptb, .lnk] s t) ∧
  (∀ (s : State) (src : Addr) (side mode st dg l1 l0 c1 c0 : Byte) (f : FeedPart) (own : Side),
      Hears s src [side, mode, st, dg, l1, l0, c1, c0] →
      f = { side := side.toNat, mode := mode.toNat, starved := decide (st ≠ 0), degraded := decide (dg ≠ 0),
            level := u16 l1 l0 } →
      s.cfg.straps.feed = some own →
      f.side = sideCode own →
      s.fdc.mode ≠ .off →
      ∃ t, exec (.feedStatusArrival src [side, mode, st, dg, l1, l0, c1, c0]) s = .next t ∧
      t.ptb = { s.ptb with
        entries := s.ptb.entries.set src { s.entry src with heard := true, lastTime := some s.now, silent := false,
                                                            feed := some (f, s.now) } } ∧
      t.fdc = { s.fdc with
        mode := .off, phase := none, conveyor := 0, auger := 0, manualConveyor := 0, manualAuger := 0, runOn := none,
        starveSince := none, starved := false } ∧
      isPresent t .conflict ∧ ¬isPresent t .starved ∧ t.lnk.lineIdle = false ∧ OnlyAlerts s t ∧
      KeepsAllBut [.ptb, .lnk, .fdc, .alr] s t) ∧
  (∀ (s : State) (c : Instr) (src : Addr) (payload : List Byte),
      (c = .demandArrival src payload ∧ payload.length ≠ 7) ∨ (c = .claimArrival src payload ∧ payload.length ≠ 3) ∨
        ((c = .levelStatusArrival src payload ∨ c = .feedStatusArrival src payload) ∧ payload.length ≠ 8) →
      Hears s src payload →
      ∃ t, exec c s = .next t ∧
      t.ptb = { s.ptb with
        entries := s.ptb.entries.set src { s.entry src with heard := true, lastTime := some s.now, silent := false } } ∧
      OnlyLine s t ∧ KeepsAllBut [.ptb, .lnk] s t)

/-- In RUN on a node with the LEV strap a taken LEVEL-MODE of one byte naming another mode than the one held: OFF and
    MANUAL are DONE; GRADE is DONE with a reference and REFUSED-STATE without; SLOPE is DONE with a present partner in
    GRADE, its watch set to 301 ms after the partner's part was stored, and REFUSED-PARTNER with the partner's address
    and mode code otherwise. A change sets the mode, output, slew state, last error and saturation run to 0, PAUSED
    clear, no watch, no jog (a change into MANUAL starts none), and ends a trial with ENDED and its capture. Naming
    the mode held is DONE and changes nothing, whether or not a partner in GRADE or a reference is there (the model's
    choice between R94 and R95, R96, log 57). DONE carries the mode code after the request, the reference-valid flag,
    the partner's address (15 if absent) and its mode code (255 if absent). Another byte is UNKNOWN, another length
    REFUSED-FORMAT, the length judged first (log 12); without the LEV strap every payload is REFUSED-STATE; none
    changes anything. -/
def Obligations.LevelModeChangesMode : Prop :=
  (∀ (s : State) (src : Addr) (tag : Byte),
      Takes s src [0] →
      s.cfg.node = .run →
      s.cfg.straps.lev.isSome = true →
      s.lvc.mode ≠ .off →
      ∃ t, exec (.levelModeOff src tag [0]) s = .next t ∧ t.lvc = { s.lvc with
        mode := .off, output := 0, slew := 0, lastError := 0, satRun := 0, paused := false, partnerWatch := none,
        jog := none, trial := none,
        capture := match s.lvc.trial with
          | some x => some (captureOf .ended x s)
          | none => s.lvc.capture } ∧
      Answered [.lvc] s t src tag .done (.levelMode (levelModeCode t.lvc.mode) t.lvc.reference.isSome
          (partnerAddress t) (partnerMode t))) ∧
  (∀ (s : State) (src : Addr) (tag : Byte),
      Takes s src [1] →
      s.cfg.node = .run →
      s.cfg.straps.lev.isSome = true →
      s.lvc.mode ≠ .manual →
      ∃ t, exec (.levelModeManual src tag [1]) s = .next t ∧ t.lvc = { s.lvc with
        mode := .manual, output := 0, slew := 0, lastError := 0, satRun := 0, paused := false, partnerWatch := none,
        jog := s.lvc.jog, trial := none,
        capture := match s.lvc.trial with
          | some x => some (captureOf .ended x s)
          | none => s.lvc.capture } ∧
      Answered [.lvc] s t src tag .done (.levelMode (levelModeCode t.lvc.mode) t.lvc.reference.isSome
          (partnerAddress t) (partnerMode t))) ∧
  (∀ (s : State) (src : Addr) (tag : Byte),
      Takes s src [2] →
      s.cfg.node = .run →
      s.cfg.straps.lev.isSome = true →
      s.lvc.mode ≠ .grade →
      s.lvc.reference.isSome = true →
      ∃ t, exec (.levelModeGrade src tag [2]) s = .next t ∧ t.lvc = { s.lvc with
        mode := .grade, output := 0, slew := 0, lastError := 0, satRun := 0, paused := false, partnerWatch := none,
        jog := none, trial := none,
        capture := match s.lvc.trial with
          | some x => some (captureOf .ended x s)
          | none => s.lvc.capture } ∧
      Answered [.lvc] s t src tag .done (.levelMode (levelModeCode t.lvc.mode) t.lvc.reference.isSome
          (partnerAddress t) (partnerMode t))) ∧
  (∀ (s : State) (src : Addr) (tag : Byte),
      Takes s src [2] →
      s.cfg.node = .run →
      s.cfg.straps.lev.isSome = true →
      s.lvc.mode ≠ .grade →
      s.lvc.reference = none →
      ∃ t, exec (.levelModeGrade src tag [2]) s = .next t ∧ Answered [] s t src tag .refusedState .empty) ∧
  (∀ (s : State) (src : Addr) (tag : Byte) (a : Addr) (l : LevelStatus) (since : Time),
      Takes s src [3] →
      s.cfg.node = .run →
      s.cfg.straps.lev.isSome = true →
      s.lvc.mode ≠ .slope →
      partner s = some (a, l) →
      l.mode = 2 →
      (s.entry a).level = some (l, since) →
      ∃ t, exec (.levelModeSlope src tag [3]) s = .next t ∧ t.lvc = { s.lvc with
        mode := .slope, output := 0, slew := 0, lastError := 0, satRun := 0, paused := false, partnerWatch :=
            some (since + 301),
        jog := none, trial := none,
        capture := match s.lvc.trial with
          | some x => some (captureOf .ended x s)
          | none => s.lvc.capture } ∧
      Answered [.lvc] s t src tag .done (.levelMode (levelModeCode t.lvc.mode) t.lvc.reference.isSome
          (partnerAddress t) (partnerMode t))) ∧
  (∀ (s : State) (src : Addr) (tag : Byte),
      Takes s src [3] →
      s.cfg.node = .run →
      s.cfg.straps.lev.isSome = true →
      s.lvc.mode ≠ .slope →
      partnerInGrade s = false →
      ∃ t, exec (.levelModeSlope src tag [3]) s = .next t ∧ Answered [] s t src tag .refusedPartner
          (.partner (partnerAddress s) (partnerMode s))) ∧
  (∀ (s : State) (src : Addr) (tag : Byte) (c : Instr) (b : Byte) (m : LevelMode),
      Takes s src [b] →
      s.cfg.node = .run →
      s.cfg.straps.lev.isSome = true →
      c = .levelModeOff src tag [b] ∨ c = .levelModeManual src tag [b] ∨ c = .levelModeGrade src tag [b] ∨
          c = .levelModeSlope src tag [b] →
      (b, m) ∈ [((0 : Byte), LevelMode.off), (1, .manual), (2, .grade), (3, .slope)] →
      s.lvc.mode = m →
      ∃ t, exec c s = .next t ∧ Answered [] s t src tag .done
          (.levelMode (levelModeCode t.lvc.mode) t.lvc.reference.isSome (partnerAddress t) (partnerMode t))) ∧
  (∀ (s : State) (src : Addr) (tag : Byte) (c : Instr) (b : Byte),
      Takes s src [b] →
      s.cfg.node = .run →
      s.cfg.straps.lev.isSome = true →
      c = .levelModeOff src tag [b] ∨ c = .levelModeManual src tag [b] ∨ c = .levelModeGrade src tag [b] ∨
          c = .levelModeSlope src tag [b] →
      3 < b.toNat →
      ∃ t, exec c s = .next t ∧ Answered [] s t src tag .unknown .empty) ∧
  (∀ (s : State) (src : Addr) (tag : Byte) (c : Instr) (payload : List Byte),
      Takes s src payload →
      s.cfg.node = .run →
      s.cfg.straps.lev.isSome = true →
      c = .levelModeOff src tag payload ∨ c = .levelModeManual src tag payload ∨ c = .levelModeGrade src tag payload ∨
          c = .levelModeSlope src tag payload →
      payload.length ≠ 1 →
      ∃ t, exec c s = .next t ∧ Answered [] s t src tag .refusedFormat .empty) ∧
  (∀ (s : State) (src : Addr) (tag : Byte) (c : Instr) (payload : List Byte),
      Takes s src payload →
      s.cfg.node = .run →
      s.cfg.straps.lev = none →
      c = .levelModeOff src tag payload ∨ c = .levelModeManual src tag payload ∨ c = .levelModeGrade src tag payload ∨
          c = .levelModeSlope src tag payload →
      ∃ t, exec c s = .next t ∧ Answered [] s t src tag .refusedState .empty)

/-- In RUN or HALT on a node with the LEV strap. OFFSET stores its value clamped to -500..500, SLOPE clamped to
    -1000..1000, in every mode. JOG in MANUAL clamps the duty to 0..u_max and the duration to 50..2000 ms: a duty
    above 0 becomes the jog, UP negative and DOWN positive, with its end time, and drives the output at once,
    replacing a running jog; a duty of 0 ends a running jog with the output 0 and otherwise changes nothing. Each is
    DONE, or CLAMPED if a value was moved, with the sub-operation (JOG: 3, then the direction) and the values as
    stored. JOG outside MANUAL is REFUSED-STATE before its direction is looked at (log 12), in MANUAL with another
    direction REFUSED-FORMAT. LEVEL-ZERO sets the reference to the average of the counted heads and is DONE with it,
    their number and the offset; with no average it is REFUSED-STATE with the number. Another sub-operation is UNKNOWN
    whatever the length, another length or none REFUSED-FORMAT (the order is log 12), and without the LEV strap every
    payload REFUSED-STATE with no content (LEVEL-ZERO's too, the model's choice, log 51); none changes anything. -/
def Obligations.LevelSetAndZeroStore : Prop :=
  (∀ (s : State) (src : Addr) (tag : Byte) (hi lo : Byte) (v : Int),
      Takes s src [1, hi, lo] →
      s.cfg.node ≠ .setup →
      s.cfg.straps.lev.isSome = true →
      v = (if s16 hi lo < -500 then -500 else if 500 < s16 hi lo then 500 else s16 hi lo) →
      ∃ t, exec (.levelSetOffset src tag [1, hi, lo]) s = .next t ∧ t.lvc = { s.lvc with offset := v } ∧
      Answered [.lvc] s t src tag (if v = s16 hi lo then .done else .clamped) (.levelSet 1 v)) ∧
  (∀ (s : State) (src : Addr) (tag : Byte) (hi lo : Byte) (v : Int),
      Takes s src [2, hi, lo] →
      s.cfg.node ≠ .setup →
      s.cfg.straps.lev.isSome = true →
      v = (if s16 hi lo < -1000 then -1000 else if 1000 < s16 hi lo then 1000 else s16 hi lo) →
      ∃ t, exec (.levelSetSlope src tag [2, hi, lo]) s = .next t ∧ t.lvc = { s.lvc with slope := v } ∧
      Answered [.lvc] s t src tag (if v = s16 hi lo then .done else .clamped) (.levelSet 2 v)) ∧
  (∀ (s : State) (src : Addr) (tag : Byte) (dir d1 d0 t1 t0 : Byte) (d : Int) (m : Nat),
      Takes s src [3, dir, d1, d0, t1, t0] →
      s.cfg.node ≠ .setup →
      s.cfg.straps.lev.isSome = true →
      s.lvc.mode = .manual →
      dir = 1 ∨ dir = 2 →
      0 ≤ s.lvc.gains.uMax →
      d = (if s16 d1 d0 < 0 then 0 else if s.lvc.gains.uMax < s16 d1 d0 then s.lvc.gains.uMax else s16 d1 d0) →
      m = max 50 (min 2000 (u16 t1 t0)) →
      0 < d →
      ∃ t, exec (.levelSetJog src tag [3, dir, d1, d0, t1, t0]) s = .next t ∧
      t.lvc = { s.lvc with
        jog := some { duty := if dir = 1 then -d else d, endTime := s.now + BitVec.ofNat 32 m },
        output := if dir = 1 then -d else d } ∧
      Answered [.lvc] s t src tag (if d = s16 d1 d0 ∧ m = u16 t1 t0 then .done else .clamped) (.jog 3 dir.toNat d m)) ∧
  (∀ (s : State) (src : Addr) (tag : Byte) (dir d1 d0 t1 t0 : Byte) (d : Int) (m : Nat),
      Takes s src [3, dir, d1, d0, t1, t0] →
      s.cfg.node ≠ .setup →
      s.cfg.straps.lev.isSome = true →
      s.lvc.mode = .manual →
      dir = 1 ∨ dir = 2 →
      0 ≤ s.lvc.gains.uMax →
      d = (if s16 d1 d0 < 0 then 0 else if s.lvc.gains.uMax < s16 d1 d0 then s.lvc.gains.uMax else s16 d1 d0) →
      m = max 50 (min 2000 (u16 t1 t0)) →
      d = 0 →
      ∃ t, exec (.levelSetJog src tag [3, dir, d1, d0, t1, t0]) s = .next t ∧
      t.lvc = { s.lvc with jog := none, output := if s.lvc.jog.isSome then 0 else s.lvc.output } ∧
      Answered [.lvc] s t src tag (if d = s16 d1 d0 ∧ m = u16 t1 t0 then .done else .clamped) (.jog 3 dir.toNat d m)) ∧
  (∀ (s : State) (src : Addr) (tag : Byte) (dir d1 d0 t1 t0 : Byte),
      Takes s src [3, dir, d1, d0, t1, t0] →
      s.cfg.node ≠ .setup →
      s.cfg.straps.lev.isSome = true →
      s.lvc.mode ≠ .manual →
      ∃ t, exec (.levelSetJog src tag [3, dir, d1, d0, t1, t0]) s = .next t ∧
          Answered [] s t src tag .refusedState .empty) ∧
  (∀ (s : State) (src : Addr) (tag : Byte) (dir d1 d0 t1 t0 : Byte),
      Takes s src [3, dir, d1, d0, t1, t0] →
      s.cfg.node ≠ .setup →
      s.cfg.straps.lev.isSome = true →
      s.lvc.mode = .manual →
      dir ≠ 1 →
      dir ≠ 2 →
      ∃ t, exec (.levelSetJog src tag [3, dir, d1, d0, t1, t0]) s = .next t ∧
          Answered [] s t src tag .refusedFormat .empty) ∧
  (∀ (s : State) (src : Addr) (tag : Byte) (c : Instr) (op : Byte) (rest : List Byte),
      Takes s src (op :: rest) →
      s.cfg.node ≠ .setup →
      s.cfg.straps.lev.isSome = true →
      c = .levelSetOffset src tag (op :: rest) ∨ c = .levelSetSlope src tag (op :: rest) ∨
          c = .levelSetJog src tag (op :: rest) →
      op ≠ 1 →
      op ≠ 2 →
      op ≠ 3 →
      ∃ t, exec c s = .next t ∧ Answered [] s t src tag .unknown .empty) ∧
  (∀ (s : State) (src : Addr) (tag : Byte) (c : Instr) (payload : List Byte),
      Takes s src payload →
      s.cfg.node ≠ .setup →
      s.cfg.straps.lev.isSome = true →
      c = .levelSetOffset src tag payload ∨ c = .levelSetSlope src tag payload ∨ c = .levelSetJog src tag payload →
      payload = [] ∨ ((payload.head? = some 1 ∨ payload.head? = some 2) ∧ payload.length ≠ 3) ∨
        (payload.head? = some 3 ∧ payload.length ≠ 6) →
      ∃ t, exec c s = .next t ∧ Answered [] s t src tag .refusedFormat .empty) ∧
  (∀ (s : State) (src : Addr) (tag : Byte) (a : Int),
      Takes s src [] →
      s.cfg.node ≠ .setup →
      s.cfg.straps.lev.isSome = true →
      average s = some a →
      ∃ t, exec (.levelZero src tag []) s = .next t ∧ t.lvc = { s.lvc with reference := some a } ∧
      Answered [.lvc] s t src tag .done (.zeroed a (countedHeads s).length s.lvc.offset)) ∧
  (∀ (s : State) (src : Addr) (tag : Byte),
      Takes s src [] →
      s.cfg.node ≠ .setup →
      s.cfg.straps.lev.isSome = true →
      average s = none →
      ∃ t, exec (.levelZero src tag []) s = .next t ∧ Answered [] s t src tag .refusedState
          (.heads (countedHeads s).length)) ∧
  (∀ (s : State) (src : Addr) (tag : Byte) (payload : List Byte),
      Takes s src payload →
      s.cfg.node ≠ .setup →
      s.cfg.straps.lev.isSome = true →
      payload ≠ [] →
      ∃ t, exec (.levelZero src tag payload) s = .next t ∧ Answered [] s t src tag .refusedFormat .empty) ∧
  (∀ (s : State) (src : Addr) (tag : Byte) (c : Instr) (payload : List Byte),
      Takes s src payload →
      s.cfg.node ≠ .setup →
      s.cfg.straps.lev = none →
      c = .levelSetOffset src tag payload ∨ c = .levelSetSlope src tag payload ∨ c = .levelSetJog src tag payload ∨
          c = .levelZero src tag payload →
      ∃ t, exec c s = .next t ∧ Answered [] s t src tag .refusedState .empty)

/-- In RUN or HALT with the LEV strap. LEVEL-GAINS clamps its five values in the two steps of R90 to the active set
    and items 28 to 32 with the new check value; a driven output and slew state in GRADE or SLOPE without a trial, a
    jog's duty and output, or a trial's guard duty and guard slew above the new u_max are reduced to it in their
    direction. It is DONE, or CLAMPED if a value was moved, with the gains and the check value. The capture read is
    DONE with capture, flag, and strikes and cycles, which read 0 with no trial (the model's choice, log 50). START in
    GRADE or SLOPE with no trial clamps gains, W and K, both slew states being the slew state, reduces output and slew
    state to the trial u_max, last duties 0 (log 40); else REFUSED-STATE, or REFUSED-BUSY with a trial. PROMOTE ends a
    trial with PROMOTED and makes its gains the active set and the items. END ends it with ENDED and, unless PAUSED,
    output and slew state are the guard duty, or 0 where it has the opposite direction. Without a trial both are
    REFUSED-STATE. Unknown sub-operations are UNKNOWN whatever the length, other lengths REFUSED-FORMAT in any mode,
    without the strap REFUSED-STATE (the order is log 12). -/
def Obligations.GainsAndTrialRequests : Prop :=
  (∀ (s : State) (src : Addr) (tag : Byte) (a1 a0 b1 b0 c1 c0 d1 d0 e1 e0 : Byte) (g k : Gains),
      Takes s src [a1, a0, b1, b0, c1, c0, d1, d0, e1, e0] →
      s.cfg.node ≠ .setup →
      s.cfg.straps.lev.isSome = true →
      g = { d := s16 a1 a0, p := s16 b1 b0, uMin := s16 c1 c0, uMax := s16 d1 d0, slew := s16 e1 e0 } →
      k = {
        d := (if g.d < 5 then 5 else if 50 < g.d then 50 else g.d), p :=
            max ((if g.d < 5 then 5 else if 50 < g.d then 50 else g.d) + 5) (if g.p < 20 then 20 else if 300 < g.p then
            300 else g.p),
        uMin := (if g.uMin < 0 then 0 else if 500 < g.uMin then 500 else g.uMin), uMax :=
            max (if g.uMin < 0 then 0 else if 500 < g.uMin then 500 else g.uMin) (if g.uMax < 0 then 0 else
            if 1000 < g.uMax then 1000 else g.uMax), slew := (if g.slew < 10 then 10 else if 1000 < g.slew then
            1000 else g.slew) } →
      s.lvc.trial = none →
      s.lvc.mode.corrects = true →
      ∃ t, exec (.levelGains src tag [a1, a0, b1, b0, c1, c0, d1, d0, e1, e0]) s = .next t ∧
          t.cfg = { s.cfg with committed := t.cfg.committed, check := checkValue t.cfg.committed s.cfg.keptStraps } ∧
      gainsOf t.cfg.committed = k ∧
      (∀ m : Fin 45, 1 ≤ m.val → m.val < 28 ∨ 32 < m.val → itemOf t.cfg.committed m.val = itemOf s.cfg.committed m.val)
          ∧
      t.lvc = { s.lvc with
        gains := k, output := (if k.uMax < ((s.lvc.output).natAbs : Int) then (s.lvc.output).sign * k.uMax else
            s.lvc.output),
        slew := (if k.uMax < ((s.lvc.slew).natAbs : Int) then (s.lvc.slew).sign * k.uMax else s.lvc.slew) } ∧
      Answered [.lvc, .cfg] s t src tag (if k = g then .done else .clamped) (.gains k t.cfg.check)) ∧
  (∀ (s : State) (src : Addr) (tag : Byte) (a1 a0 b1 b0 c1 c0 d1 d0 e1 e0 : Byte) (g k : Gains) (j : Jog),
      Takes s src [a1, a0, b1, b0, c1, c0, d1, d0, e1, e0] →
      s.cfg.node ≠ .setup →
      s.cfg.straps.lev.isSome = true →
      g = { d := s16 a1 a0, p := s16 b1 b0, uMin := s16 c1 c0, uMax := s16 d1 d0, slew := s16 e1 e0 } →
      k = {
        d := (if g.d < 5 then 5 else if 50 < g.d then 50 else g.d), p :=
            max ((if g.d < 5 then 5 else if 50 < g.d then 50 else g.d) + 5) (if g.p < 20 then 20 else if 300 < g.p then
            300 else g.p),
        uMin := (if g.uMin < 0 then 0 else if 500 < g.uMin then 500 else g.uMin), uMax :=
            max (if g.uMin < 0 then 0 else if 500 < g.uMin then 500 else g.uMin) (if g.uMax < 0 then 0 else
            if 1000 < g.uMax then 1000 else g.uMax), slew := (if g.slew < 10 then 10 else if 1000 < g.slew then
            1000 else g.slew) } →
      s.lvc.trial = none →
      s.lvc.mode.corrects = false →
      s.lvc.jog = some j →
      ∃ t, exec (.levelGains src tag [a1, a0, b1, b0, c1, c0, d1, d0, e1, e0]) s = .next t ∧
          t.cfg = { s.cfg with committed := t.cfg.committed, check := checkValue t.cfg.committed s.cfg.keptStraps } ∧
      gainsOf t.cfg.committed = k ∧
      (∀ m : Fin 45, 1 ≤ m.val → m.val < 28 ∨ 32 < m.val → itemOf t.cfg.committed m.val = itemOf s.cfg.committed m.val)
          ∧
      t.lvc = { s.lvc with
        gains := k, jog := some { duty := (if k.uMax < ((j.duty).natAbs : Int) then (j.duty).sign * k.uMax else
                                    j.duty), endTime := j.endTime },
        output := (if k.uMax < ((j.duty).natAbs : Int) then (j.duty).sign * k.uMax else j.duty) } ∧
      Answered [.lvc, .cfg] s t src tag (if k = g then .done else .clamped) (.gains k t.cfg.check)) ∧
  (∀ (s : State) (src : Addr) (tag : Byte) (a1 a0 b1 b0 c1 c0 d1 d0 e1 e0 : Byte) (g k : Gains),
      Takes s src [a1, a0, b1, b0, c1, c0, d1, d0, e1, e0] →
      s.cfg.node ≠ .setup →
      s.cfg.straps.lev.isSome = true →
      g = { d := s16 a1 a0, p := s16 b1 b0, uMin := s16 c1 c0, uMax := s16 d1 d0, slew := s16 e1 e0 } →
      k = {
        d := (if g.d < 5 then 5 else if 50 < g.d then 50 else g.d), p :=
            max ((if g.d < 5 then 5 else if 50 < g.d then 50 else g.d) + 5) (if g.p < 20 then 20 else if 300 < g.p then
            300 else g.p),
        uMin := (if g.uMin < 0 then 0 else if 500 < g.uMin then 500 else g.uMin), uMax :=
            max (if g.uMin < 0 then 0 else if 500 < g.uMin then 500 else g.uMin) (if g.uMax < 0 then 0 else
            if 1000 < g.uMax then 1000 else g.uMax), slew := (if g.slew < 10 then 10 else if 1000 < g.slew then
            1000 else g.slew) } →
      s.lvc.trial = none →
      s.lvc.mode.corrects = false →
      s.lvc.jog = none →
      ∃ t, exec (.levelGains src tag [a1, a0, b1, b0, c1, c0, d1, d0, e1, e0]) s = .next t ∧
          t.cfg = { s.cfg with committed := t.cfg.committed, check := checkValue t.cfg.committed s.cfg.keptStraps } ∧
      gainsOf t.cfg.committed = k ∧
      (∀ m : Fin 45, 1 ≤ m.val → m.val < 28 ∨ 32 < m.val → itemOf t.cfg.committed m.val = itemOf s.cfg.committed m.val)
          ∧
      t.lvc = { s.lvc with gains := k } ∧
      Answered [.lvc, .cfg] s t src tag (if k = g then .done else .clamped) (.gains k t.cfg.check)) ∧
  (∀ (s : State) (src : Addr) (tag : Byte) (a1 a0 b1 b0 c1 c0 d1 d0 e1 e0 : Byte) (g k : Gains) (x : Trial),
      Takes s src [a1, a0, b1, b0, c1, c0, d1, d0, e1, e0] →
      s.cfg.node ≠ .setup →
      s.cfg.straps.lev.isSome = true →
      g = { d := s16 a1 a0, p := s16 b1 b0, uMin := s16 c1 c0, uMax := s16 d1 d0, slew := s16 e1 e0 } →
      k = {
        d := (if g.d < 5 then 5 else if 50 < g.d then 50 else g.d), p :=
            max ((if g.d < 5 then 5 else if 50 < g.d then 50 else g.d) + 5) (if g.p < 20 then 20 else if 300 < g.p then
            300 else g.p),
        uMin := (if g.uMin < 0 then 0 else if 500 < g.uMin then 500 else g.uMin), uMax :=
            max (if g.uMin < 0 then 0 else if 500 < g.uMin then 500 else g.uMin) (if g.uMax < 0 then 0 else
            if 1000 < g.uMax then 1000 else g.uMax), slew := (if g.slew < 10 then 10 else if 1000 < g.slew then
            1000 else g.slew) } →
      s.lvc.trial = some x →
      ∃ t, exec (.levelGains src tag [a1, a0, b1, b0, c1, c0, d1, d0, e1, e0]) s = .next t ∧
          t.cfg = { s.cfg with committed := t.cfg.committed, check := checkValue t.cfg.committed s.cfg.keptStraps } ∧
      gainsOf t.cfg.committed = k ∧
      (∀ m : Fin 45, 1 ≤ m.val → m.val < 28 ∨ 32 < m.val → itemOf t.cfg.committed m.val = itemOf s.cfg.committed m.val)
          ∧
      t.lvc = { s.lvc with
        gains := k,
        trial := some { x with guardDuty := (if k.uMax < ((x.guardDuty).natAbs : Int) then
                                 (x.guardDuty).sign * k.uMax else x.guardDuty),
                               guardSlew := (if k.uMax < ((x.guardSlew).natAbs : Int) then
                                   (x.guardSlew).sign * k.uMax else x.guardSlew) } } ∧
      Answered [.lvc, .cfg] s t src tag (if k = g then .done else .clamped) (.gains k t.cfg.check)) ∧
  (∀ (s : State) (src : Addr) (tag : Byte) (payload : List Byte),
      Takes s src payload →
      s.cfg.node ≠ .setup →
      s.cfg.straps.lev.isSome = true →
      payload.length ≠ 10 →
      ∃ t, exec (.levelGains src tag payload) s = .next t ∧ Answered [] s t src tag .refusedFormat .empty) ∧
  (∀ (s : State) (src : Addr) (tag : Byte),
      Takes s src [] →
      s.cfg.node ≠ .setup →
      s.cfg.straps.lev.isSome = true →
      ∃ t, exec (.levelTrialCaptureRead src tag []) s = .next t ∧
      Answered [] s t src tag .done (.trialRead s.lvc.capture s.lvc.trial.isSome ((s.lvc.trial.map (·.strikes)).getD 0)
        ((s.lvc.trial.map (·.cycles)).getD 0))) ∧
  (∀ (s : State) (src : Addr) (tag : Byte) (a1 a0 b1 b0 c1 c0 d1 d0 e1 e0 : Byte) (w1 w0 n : Byte) (g k : Gains)
      (w : Int) (m : Nat),
      Takes s src [1, a1, a0, b1, b0, c1, c0, d1, d0, e1, e0, w1, w0, n] →
      s.cfg.node ≠ .setup →
      s.cfg.straps.lev.isSome = true →
      s.lvc.mode.corrects = true →
      s.lvc.trial = none →
      g = { d := s16 a1 a0, p := s16 b1 b0, uMin := s16 c1 c0, uMax := s16 d1 d0, slew := s16 e1 e0 } →
      k = {
        d := (if g.d < 5 then 5 else if 50 < g.d then 50 else g.d), p :=
            max ((if g.d < 5 then 5 else if 50 < g.d then 50 else g.d) + 5) (if g.p < 20 then 20 else if 300 < g.p then
            300 else g.p),
        uMin := (if g.uMin < 0 then 0 else if 500 < g.uMin then 500 else g.uMin), uMax :=
            max (if g.uMin < 0 then 0 else if 500 < g.uMin then 500 else g.uMin) (if g.uMax < 0 then 0 else
            if 1000 < g.uMax then 1000 else g.uMax), slew := (if g.slew < 10 then 10 else if 1000 < g.slew then
            1000 else g.slew) } →
      w = (if s16 w1 w0 < 50 then 50 else if 1000 < s16 w1 w0 then 1000 else s16 w1 w0) →
      m = max 1 (min 20 n.toNat) →
      ∃ t, exec (.levelTrialStart src tag [1, a1, a0, b1, b0, c1, c0, d1, d0, e1, e0, w1, w0, n]) s = .next t ∧
      t.lvc = { s.lvc with
        trial := some { gains := k, w := w, k := m, strikes := 0, cycles := 0, guardSlew := s.lvc.slew,
                        trialDuty := 0, guardDuty := 0 },
        output := (if k.uMax < ((s.lvc.output).natAbs : Int) then (s.lvc.output).sign * k.uMax else s.lvc.output),
        slew := (if k.uMax < ((s.lvc.slew).natAbs : Int) then (s.lvc.slew).sign * k.uMax else s.lvc.slew) } ∧
      Answered [.lvc] s t src tag (if k = g ∧ w = s16 w1 w0 ∧ m = n.toNat then .done else .clamped) (.trialSet k w m)) ∧
  (∀ (s : State) (src : Addr) (tag : Byte) (a1 a0 b1 b0 c1 c0 d1 d0 e1 e0 : Byte) (w1 w0 n : Byte),
      Takes s src [1, a1, a0, b1, b0, c1, c0, d1, d0, e1, e0, w1, w0, n] →
      s.cfg.node ≠ .setup →
      s.cfg.straps.lev.isSome = true →
      s.lvc.mode.corrects = false ∨ s.lvc.trial.isSome = true →
      ∃ t, exec (.levelTrialStart src tag [1, a1, a0, b1, b0, c1, c0, d1, d0, e1, e0, w1, w0, n]) s = .next t ∧
      Answered [] s t src tag (if s.lvc.mode.corrects then .refusedBusy else .refusedState) .empty) ∧
  (∀ (s : State) (src : Addr) (tag : Byte) (x : Trial),
      Takes s src [2] →
      s.cfg.node ≠ .setup →
      s.cfg.straps.lev.isSome = true →
      s.lvc.trial = some x →
      GainsLaw x.gains →
      ∃ t, exec (.levelTrialPromote src tag [2]) s = .next t ∧
          t.cfg = { s.cfg with committed := t.cfg.committed, check := checkValue t.cfg.committed s.cfg.keptStraps } ∧
      gainsOf t.cfg.committed = x.gains ∧
      (∀ m : Fin 45, 1 ≤ m.val → m.val < 28 ∨ 32 < m.val → itemOf t.cfg.committed m.val = itemOf s.cfg.committed m.val)
          ∧
      t.lvc = { s.lvc with
        gains := x.gains, trial := none,
        capture := some {
          reason := .promoted, cycles := x.cycles, index := s.trv.index, error := s.lvc.lastError,
          trialDuty := x.trialDuty, guardDuty := x.guardDuty } } ∧
      Answered [.lvc, .cfg] s t src tag .done (.gains x.gains t.cfg.check)) ∧
  (∀ (s : State) (src : Addr) (tag : Byte) (x : Trial) (o : Int),
      Takes s src [3] →
      s.cfg.node ≠ .setup →
      s.cfg.straps.lev.isSome = true →
      s.lvc.trial = some x →
      o = (if s.lvc.output * x.guardDuty < 0 then 0 else x.guardDuty) →
      ∃ t, exec (.levelTrialEnd src tag [3]) s = .next t ∧
      t.lvc = { s.lvc with
        output := if s.lvc.paused then s.lvc.output else o, slew := if s.lvc.paused then s.lvc.slew else o, trial :=
            none,
        capture := some {
          reason := .ended, cycles := x.cycles, index := s.trv.index, error := s.lvc.lastError,
          trialDuty := x.trialDuty, guardDuty := x.guardDuty } } ∧
      Answered [.lvc] s t src tag .done (.trialEnd t.lvc.capture)) ∧
  (∀ (s : State) (src : Addr) (tag : Byte),
      Takes s src [2] →
      s.cfg.node ≠ .setup →
      s.cfg.straps.lev.isSome = true →
      s.lvc.trial = none →
      ∃ t, exec (.levelTrialPromote src tag [2]) s = .next t ∧ Answered [] s t src tag .refusedState .empty) ∧
  (∀ (s : State) (src : Addr) (tag : Byte),
      Takes s src [3] →
      s.cfg.node ≠ .setup →
      s.cfg.straps.lev.isSome = true →
      s.lvc.trial = none →
      ∃ t, exec (.levelTrialEnd src tag [3]) s = .next t ∧ Answered [] s t src tag .refusedState .empty) ∧
  (∀ (s : State) (src : Addr) (tag : Byte) (c : Instr) (op : Byte) (rest : List Byte),
      Takes s src (op :: rest) →
      s.cfg.node ≠ .setup →
      s.cfg.straps.lev.isSome = true →
      c = .levelTrialCaptureRead src tag (op :: rest) ∨ c = .levelTrialStart src tag (op :: rest) ∨
          c = .levelTrialPromote src tag (op :: rest) ∨ c = .levelTrialEnd src tag (op :: rest) →
      op = 0 ∨ 3 < op.toNat →
      ∃ t, exec c s = .next t ∧ Answered [] s t src tag .unknown .empty) ∧
  (∀ (s : State) (src : Addr) (tag : Byte) (c : Instr) (payload : List Byte),
      Takes s src payload →
      s.cfg.node ≠ .setup →
      s.cfg.straps.lev.isSome = true →
      c = .levelTrialCaptureRead src tag payload ∨ c = .levelTrialStart src tag payload ∨
          c = .levelTrialPromote src tag payload ∨ c = .levelTrialEnd src tag payload →
      (payload.head? = some 1 ∧ payload.length ≠ 14) ∨
        ((payload.head? = some 2 ∨ payload.head? = some 3) ∧ payload.length ≠ 1) →
      ∃ t, exec c s = .next t ∧ Answered [] s t src tag .refusedFormat .empty) ∧
  (∀ (s : State) (src : Addr) (tag : Byte) (c : Instr) (payload : List Byte),
      Takes s src payload →
      s.cfg.node ≠ .setup →
      s.cfg.straps.lev = none →
      c = .levelGains src tag payload ∨ c = .levelTrialCaptureRead src tag payload ∨
          c = .levelTrialStart src tag payload ∨ c = .levelTrialPromote src tag payload ∨
          c = .levelTrialEnd src tag payload →
      ∃ t, exec c s = .next t ∧ Answered [] s t src tag .refusedState .empty)

/-- In RUN on a node with the FEED strap. The status read is DONE and changes nothing. MODE naming another mode sets
    it with both duties and manual duties 0, run-on and starvation timers stopped, in AUTO the phase FEEDING while
    travel is MOVING and IDLE otherwise, in OFF the starved flag clear and source 6 absent; naming the mode held it
    changes nothing; both are DONE. LEVEL stores the setpoint clamped to 100..900. DUTIES in MANUAL stores both duties
    clamped to 0..1000 and drives them at once; in another mode it is REFUSED-STATE. Each is DONE, or CLAMPED if a
    value was moved. Every reply that performs carries mode, phase, setpoint, duties, level as judged at the last
    evaluation (log 35), degraded and starved flag after the request. Another sub-operation (whatever the length) or
    mode byte is UNKNOWN, another length REFUSED-FORMAT in any mode (the order is log 12), and without the FEED strap
    every payload is REFUSED-STATE; none changes anything. -/
def Obligations.FeedRequestsAct : Prop :=
  (∀ (s : State) (src : Addr) (tag : Byte),
      Takes s src [] →
      s.cfg.node = .run →
      s.cfg.straps.feed.isSome = true →
      ∃ t, exec (.feedStatusRead src tag []) s = .next t ∧ Answered [] s t src tag .done (.feed {
        mode := t.fdc.mode, phase := t.fdc.phase, setpoint := t.cfg.feedSetpoint, conveyor := t.fdc.conveyor,
        auger := t.fdc.auger, level := t.fdc.judged, degraded := t.fdc.degraded, starved := t.fdc.starved })) ∧
  (∀ (s : State) (src : Addr) (tag : Byte) (b : Byte) (m : FeedMode),
      Takes s src [1, b] →
      s.cfg.node = .run →
      s.cfg.straps.feed.isSome = true →
      (b, m) ∈ [((0 : Byte), FeedMode.off), (1, .manual), (2, .auto)] →
      s.fdc.mode ≠ m →
      ∃ t, exec (.feedMode src tag [1, b]) s = .next t ∧
      t.fdc = { s.fdc with
        mode := m, conveyor := 0, auger := 0, manualConveyor := 0, manualAuger := 0, runOn := none, starveSince := none,
        phase := if m = .auto then some (if s.trv.state = .moving then .feeding else .idle) else none,
        starved := if m = .off then false else s.fdc.starved } ∧
      (isPresent t .starved ↔ t.fdc.starved = true) ∧ t.alr.mask = s.alr.mask ∧
      (t.fdc.starved = s.fdc.starved → (isPresent s .starved ↔ s.fdc.starved = true) →
        t.alr.present = presentAfter .requestTaken 1 s) ∧
      Answered [.fdc, .alr] s t src tag .done (.feed {
        mode := t.fdc.mode, phase := t.fdc.phase, setpoint := t.cfg.feedSetpoint, conveyor := t.fdc.conveyor,
        auger := t.fdc.auger, level := t.fdc.judged, degraded := t.fdc.degraded, starved := t.fdc.starved })) ∧
  (∀ (s : State) (src : Addr) (tag : Byte) (b : Byte) (m : FeedMode),
      Takes s src [1, b] →
      s.cfg.node = .run →
      s.cfg.straps.feed.isSome = true →
      (b, m) ∈ [((0 : Byte), FeedMode.off), (1, .manual), (2, .auto)] →
      s.fdc.mode = m →
      ∃ t, exec (.feedMode src tag [1, b]) s = .next t ∧ Answered [] s t src tag .done (.feed {
        mode := t.fdc.mode, phase := t.fdc.phase, setpoint := t.cfg.feedSetpoint, conveyor := t.fdc.conveyor,
        auger := t.fdc.auger, level := t.fdc.judged, degraded := t.fdc.degraded, starved := t.fdc.starved })) ∧
  (∀ (s : State) (src : Addr) (tag : Byte) (hi lo : Byte) (v : Int),
      Takes s src [2, hi, lo] →
      s.cfg.node = .run →
      s.cfg.straps.feed.isSome = true →
      v = (if s16 hi lo < 100 then 100 else if 900 < s16 hi lo then 900 else s16 hi lo) →
      ∃ t, exec (.feedLevel src tag [2, hi, lo]) s = .next t ∧ t.cfg = { s.cfg with feedSetpoint := v } ∧
      Answered [.cfg] s t src tag (if v = s16 hi lo then .done else .clamped) (.feed {
        mode := t.fdc.mode, phase := t.fdc.phase, setpoint := t.cfg.feedSetpoint, conveyor := t.fdc.conveyor,
        auger := t.fdc.auger, level := t.fdc.judged, degraded := t.fdc.degraded, starved := t.fdc.starved })) ∧
  (∀ (s : State) (src : Addr) (tag : Byte) (c1 c0 a1 a0 : Byte) (x y : Int),
      Takes s src [3, c1, c0, a1, a0] →
      s.cfg.node = .run →
      s.cfg.straps.feed.isSome = true →
      s.fdc.mode = .manual →
      x = (if s16 c1 c0 < 0 then 0 else if 1000 < s16 c1 c0 then 1000 else s16 c1 c0) →
      y = (if s16 a1 a0 < 0 then 0 else if 1000 < s16 a1 a0 then 1000 else s16 a1 a0) →
      ∃ t, exec (.feedDuties src tag [3, c1, c0, a1, a0]) s = .next t ∧
      t.fdc = { s.fdc with manualConveyor := x, manualAuger := y, conveyor := x, auger := y } ∧
      Answered [.fdc] s t src tag (if x = s16 c1 c0 ∧ y = s16 a1 a0 then .done else .clamped) (.feed {
        mode := t.fdc.mode, phase := t.fdc.phase, setpoint := t.cfg.feedSetpoint, conveyor := t.fdc.conveyor,
        auger := t.fdc.auger, level := t.fdc.judged, degraded := t.fdc.degraded, starved := t.fdc.starved })) ∧
  (∀ (s : State) (src : Addr) (tag : Byte) (c1 c0 a1 a0 : Byte),
      Takes s src [3, c1, c0, a1, a0] →
      s.cfg.node = .run →
      s.cfg.straps.feed.isSome = true →
      s.fdc.mode ≠ .manual →
      ∃ t, exec (.feedDuties src tag [3, c1, c0, a1, a0]) s = .next t ∧ Answered [] s t src tag .refusedState .empty) ∧
  (∀ (s : State) (src : Addr) (tag : Byte) (c : Instr) (payload : List Byte),
      Takes s src payload →
      s.cfg.node = .run →
      s.cfg.straps.feed.isSome = true →
      c = .feedStatusRead src tag payload ∨ c = .feedMode src tag payload ∨ c = .feedLevel src tag payload ∨
          c = .feedDuties src tag payload →
      payload.head? ≠ none →
      (payload.head? ≠ some 1 ∧ payload.head? ≠ some 2 ∧ payload.head? ≠ some 3) ∨
        (payload.head? = some 1 ∧ payload.length = 2 ∧ 2 < (payload.getD 1 0).toNat) →
      ∃ t, exec c s = .next t ∧ Answered [] s t src tag .unknown .empty) ∧
  (∀ (s : State) (src : Addr) (tag : Byte) (c : Instr) (payload : List Byte),
      Takes s src payload →
      s.cfg.node = .run →
      s.cfg.straps.feed.isSome = true →
      c = .feedStatusRead src tag payload ∨ c = .feedMode src tag payload ∨ c = .feedLevel src tag payload ∨
          c = .feedDuties src tag payload →
      (payload.head? = some 1 ∧ payload.length ≠ 2) ∨ (payload.head? = some 2 ∧ payload.length ≠ 3) ∨
        (payload.head? = some 3 ∧ payload.length ≠ 5) →
      ∃ t, exec c s = .next t ∧ Answered [] s t src tag .refusedFormat .empty) ∧
  (∀ (s : State) (src : Addr) (tag : Byte) (c : Instr) (payload : List Byte),
      Takes s src payload →
      s.cfg.node = .run →
      s.cfg.straps.feed = none →
      c = .feedStatusRead src tag payload ∨ c = .feedMode src tag payload ∨ c = .feedLevel src tag payload ∨
          c = .feedDuties src tag payload →
      ∃ t, exec c s = .next t ∧ Answered [] s t src tag .refusedState .empty)

/-- JOB START in RUN with travel not UNKNOWN is DONE with the job number raised by 1 modulo 256: the job base counts
    are those of the last accepted frame, bay travel none, high-water travel, interval base, index and stop time 0
    from this moment's mark (log 22), the job open, MSI accumulating interval 0 with empty lanes and no flags. With a
    job open the open interval is first closed with span 1: its record (job time 0 with no job start, log 36) stands
    in the slot of the old next_seq under even parity (log 9), inverted under an armed test, the other slots as they
    were, next_seq one further, held and the overwritten total by R150, every WAIT channel is RECORDS, an empty slot B
    takes at once the frame of the lowest ready channel, which steps (R162), the RECORD just written for a channel
    that had caught up, events 20 (full ring), 19 and 5 are counted in that order, 5 last at the index 0 then held,
    the REPLY placed first (log 11), and the cold set sets the last-record-cold flag and, when not empty, a COLD-SPOT
    waits; the need is formed anew where the flag changes (log 45). JOB END in RUN or HALT closes the open interval
    likewise, clears job, stop time, lanes and flags, and keeps the number and the index; without a job it changes
    nothing. With UNKNOWN travel START is REFUSED-STATE; another byte is UNKNOWN, and another length, judged first
    (log 12), REFUSED-FORMAT in RUN and, unless its first byte is START's (which HALT's gate refuses), in HALT. -/
def Obligations.JobStartAndEnd : Prop :=
  (∀ (s : State) (src : Addr) (tag : Byte) (x : LastFrame),
      Takes s src [1] →
      s.cfg.node = .run →
      s.trv.state ≠ .unknown →
      s.trv.jobOpen = false →
      s.trv.last = some x →
      ∃ t, exec (.jobStart src tag [1]) s = .next t ∧ t.ring = { s.ring with job := s.ring.job + 1 } ∧
      t.trv = { s.trv with
        jobOpen := true, jobBase := some (x.left, x.right), bayTravel := none, highWater := 0, baseIndex := 0,
        baseTravel := 0, index := 0, stopMs := 0, stopMark := s.now } ∧
      t.msi = { s.msi with
        accumulating := true, openIndex := 0, lanes := Vector.replicate 12 Lane.empty, flags := 0,
        jobStart := some s.now, jobSat := false, lastCold := t.msi.lastCold } ∧
      t.msi.lastCold = s.msi.lastCold ∧ Counts .requestTaken src 1 s.now 0 s t ∧
      Answered [.ring, .trv, .msi, .evc] s t src tag .done (.job (s.ring.job + 1))) ∧
  (∀ (s u v : State) (src : Addr) (tag : Byte) (x : LastFrame) (w : ColdSpot),
      Takes s src [1] →
      s.cfg.node = .run →
      s.trv.state ≠ .unknown →
      s.trv.jobOpen = true →
      s.trv.last = some x →
      s.ring.held ≤ 4096 →
      u = addStopTime (judgeJobTime s) →
      v = ringWrite (buildRecord 1 u) (clearStopTime u) →
      w = coldSpotNow u →
      ∃ t, exec (.jobStart src tag [1]) s = .next t ∧ t.ring.job = s.ring.job + 1 ∧
          t.ring.nextSeq = s.ring.nextSeq + 1 ∧ t.ring.held = min 4096 (s.ring.held + 1) ∧
      t.ring.overwritten = (if s.ring.held = 4096 then min 16777215 (s.ring.overwritten + 1) else s.ring.overwritten) ∧
      t.ring.read (slotOf s.ring.nextSeq) = storedSlot (slotOf s.ring.nextSeq) (buildRecord 1 u) s.mck.armed ∧
      (∀ m : Fin 4096, m.val ≠ slotOf s.ring.nextSeq → t.ring.read m = s.ring.read m) ∧
      (s.lnk.slotB.isSome = true → t.mck = { s.mck with armed := false } ∧ t.lnk.slotB = s.lnk.slotB ∧
        t.rdu.channels = s.rdu.channels.map (fun c => if c.state = .wait then { c with state := .records } else c)) ∧
      (s.lnk.slotB = none → ArbiterFills v t) ∧
      (∀ k : Fin 4, s.lnk.slotB = none → readyChannel s = none → (s.channel k).state = .wait →
        (∀ m, m < k → (s.channel m).state ≠ .wait) → (s.channel k).next = s.ring.nextSeq → s.mck.armed = false →
        t.lnk.slotB = some { dst := (s.channel k).owner.getD 15, tag := BitVec.ofNat 8 k, resets := false,
                             body := .record (buildRecord 1 u) } ∧
        (t.channel k).next = s.ring.nextSeq + 1 ∧
        (t.channel k).recordsSent = min 16777215 ((s.channel k).recordsSent + 1)) ∧
      t.trv = { s.trv with
        jobOpen := true, jobBase := some (x.left, x.right), bayTravel := none, highWater := 0, baseIndex := 0,
        baseTravel := 0, index := 0, stopMs := 0, stopMark := s.now } ∧
      t.msi = { s.msi with
        accumulating := true, openIndex := 0, lanes := Vector.replicate 12 Lane.empty, flags := 0,
        jobStart := some s.now, jobSat := false, lastCold := t.msi.lastCold } ∧
      t.msi.lastCold = decide (w.cold ≠ 0) ∧ (w.cold ≠ 0 → WaitsInP t (.coldSpot w)) ∧ t.gsu = { s.gsu with
        need := if t.msi.lastCold = s.msi.lastCold then s.gsu.need else needNow t } ∧
      t.evc.counters = countAll .requestTaken src 1 s.now 0 (countAll .recordClosed 0 1 s.now s.trv.index
        (if s.lnk.slotB = none then (afterStep v).evc.counters
          else if s.ring.held = 4096 then countAll .recordOverwritten 0 1 s.now s.trv.index s.evc.counters
          else s.evc.counters)) ∧ LinkRunsOn s t ∧
      Replied s t src tag .done (.job (s.ring.job + 1)) ∧ TakenFrame [.lnk, .ring, .trv, .msi, .rdu, .mck, .gsu, .evc,
          .alr] .done src s t) ∧
  (∀ (s : State) (src : Addr) (tag : Byte),
      Takes s src [1] →
      s.cfg.node = .run →
      s.trv.state = .unknown →
      ∃ t, exec (.jobStart src tag [1]) s = .next t ∧ Answered [] s t src tag .refusedState .empty) ∧
  (∀ (s : State) (src : Addr) (tag : Byte),
      Takes s src [2] →
      s.cfg.node ≠ .setup →
      s.trv.jobOpen = false →
      ∃ t, exec (.jobEnd src tag [2]) s = .next t ∧ Answered [] s t src tag .done (.job s.ring.job)) ∧
  (∀ (s u v : State) (src : Addr) (tag : Byte) (w : ColdSpot),
      Takes s src [2] →
      s.cfg.node ≠ .setup →
      s.trv.jobOpen = true →
      s.ring.held ≤ 4096 →
      u = addStopTime (judgeJobTime s) →
      v = ringWrite (buildRecord 1 u) (clearStopTime u) →
      w = coldSpotNow u →
      ∃ t, exec (.jobEnd src tag [2]) s = .next t ∧ t.ring.job = s.ring.job ∧ t.ring.nextSeq = s.ring.nextSeq + 1 ∧
          t.ring.held = min 4096 (s.ring.held + 1) ∧
      t.ring.overwritten = (if s.ring.held = 4096 then min 16777215 (s.ring.overwritten + 1) else s.ring.overwritten) ∧
      t.ring.read (slotOf s.ring.nextSeq) = storedSlot (slotOf s.ring.nextSeq) (buildRecord 1 u) s.mck.armed ∧
      (∀ m : Fin 4096, m.val ≠ slotOf s.ring.nextSeq → t.ring.read m = s.ring.read m) ∧
      (s.lnk.slotB.isSome = true → t.mck = { s.mck with armed := false } ∧ t.lnk.slotB = s.lnk.slotB ∧
        t.rdu.channels = s.rdu.channels.map (fun c => if c.state = .wait then { c with state := .records } else c)) ∧
      (s.lnk.slotB = none → ArbiterFills v t) ∧
      (∀ k : Fin 4, s.lnk.slotB = none → readyChannel s = none → (s.channel k).state = .wait →
        (∀ m, m < k → (s.channel m).state ≠ .wait) → (s.channel k).next = s.ring.nextSeq → s.mck.armed = false →
        t.lnk.slotB = some { dst := (s.channel k).owner.getD 15, tag := BitVec.ofNat 8 k, resets := false,
                             body := .record (buildRecord 1 u) } ∧
        (t.channel k).next = s.ring.nextSeq + 1 ∧
        (t.channel k).recordsSent = min 16777215 ((s.channel k).recordsSent + 1)) ∧
      t.trv = { s.trv with jobOpen := false, stopMs := 0, stopMark := s.now } ∧
      t.msi = { s.msi with
        accumulating := false, lanes := Vector.replicate 12 Lane.empty, flags := 0, jobSat := u.msi.jobSat,
        lastCold := t.msi.lastCold } ∧
      t.msi.lastCold = decide (w.cold ≠ 0) ∧ (w.cold ≠ 0 → WaitsInP t (.coldSpot w)) ∧ t.gsu = { s.gsu with
        need := if t.msi.lastCold = s.msi.lastCold then s.gsu.need else needNow t } ∧
      t.evc.counters = countAll .requestTaken src 1 s.now s.trv.index (countAll .recordClosed 0 1 s.now s.trv.index
        (if s.lnk.slotB = none then (afterStep v).evc.counters
          else if s.ring.held = 4096 then countAll .recordOverwritten 0 1 s.now s.trv.index s.evc.counters
          else s.evc.counters)) ∧ LinkRunsOn s t ∧
      Replied s t src tag .done (.job s.ring.job) ∧ TakenFrame [.lnk, .ring, .trv, .msi, .rdu, .mck, .gsu, .evc,
          .alr] .done src s t) ∧
  (∀ (s : State) (src : Addr) (tag : Byte) (c : Instr) (b : Byte),
      Takes s src [b] →
      s.cfg.node ≠ .setup →
      b ≠ 1 →
      b ≠ 2 →
      c = .jobStart src tag [b] ∨ c = .jobEnd src tag [b] →
      ∃ t, exec c s = .next t ∧ Answered [] s t src tag .unknown .empty) ∧
  (∀ (s : State) (src : Addr) (tag : Byte) (c : Instr) (payload : List Byte),
      Takes s src payload →
      s.cfg.node = .run ∨ (s.cfg.node = .halt ∧ payload.head? ≠ some 1) →
      payload.length ≠ 1 →
      c = .jobStart src tag payload ∨ c = .jobEnd src tag payload →
      ∃ t, exec c s = .next t ∧ Answered [] s t src tag .refusedFormat .empty)

/-- In every node state. OPEN of an IDLE channel resolves the start seq (given, oldest or next_seq); with a distance
    of at most 8388608 behind next_seq the channel takes the requester as owner, the count and remaining (at most
    4095), the headers (at most 3), the two option flags (positions 2 to 7 of the options byte are ignored, the
    model's choice, log 59), totals 0, and is HEADERS with headers and otherwise RECORDS and judged; DONE, or CLAMPED
    if a count was moved, with the start, oldest and next seq and held; with slot B empty the lowest channel with a
    frame ready, which may be this one, moves its frame there at once and steps (R162). A channel not IDLE is REFUSED-
    BUSY, a start ahead of the ring REFUSED-RANGE. STOP of an IDLE channel is DONE; from another station than the
    owner REFUSED-OWNER; from the owner a channel in HEADERS, RECORDS or WAIT loses its cyclic flag and is CLOSING
    with STOPPED, or IDLE at once without the close-status flag, its owner then none (log 24), and one in CLOSING
    stands. STATUS is DONE. STOP and STATUS carry the channel number, the channel's context after the request, the
    owner 15 if there is none, and the ring (when a fill at the request itself is taken in is log 39). Unknown bytes
    are UNKNOWN, other lengths REFUSED-FORMAT, the sub-operation before the length (log 12). -/
def Obligations.ReadoutRequestsAct : Prop :=
  (∀ (s : State) (src : Addr) (tag : Byte) (k mode s2 s1 s0 c1 c0 h o : Byte) (n : Fin 4) (q : Seq) (c m : Nat),
      Takes s src [1, k, mode, s2, s1, s0, c1, c0, h, o] →
      k.toNat = n.val →
      mode.toNat ≤ 2 →
      q = (if mode = 0 then seq24 s2 s1 s0 else if mode = 1 then s.ring.nextSeq - BitVec.ofNat 24 s.ring.held
        else s.ring.nextSeq) →
      (s.channel n).state = .idle →
      (s.ring.nextSeq - q).toNat ≤ 8388608 →
      s.lnk.slotB.isSome = true →
      c = min 4095 (u16 c1 c0) →
      m = min 3 h.toNat →
      ∃ t, exec (.readoutOpen src tag [1, k, mode, s2, s1, s0, c1, c0, h, o]) s = .next t ∧
      t.channel n = ({
        state := if 0 < m then .headers else .records, owner := some src, next := q, count := c, remaining := c,
        headerCount := m, headersLeft := m, cyclic := o.getLsbD 0, closeFlag := o.getLsbD 1, recordsSent := 0,
        voidsSent := 0, status := .none } : Channel).judged s.ring.nextSeq ∧
      (∀ i, i ≠ n → t.channel i = s.channel i) ∧
      Answered [.rdu] s t src tag (if c = u16 c1 c0 ∧ m = h.toNat then .done else .clamped)
        (.opened n q s.ring.oldest s.ring.nextSeq s.ring.held)) ∧
  (∀ (s v : State) (src : Addr) (tag k mode s2 s1 s0 c1 c0 h o : Byte) (n : Fin 4) (q : Seq) (c m : Nat),
      Takes s src [1, k, mode, s2, s1, s0, c1, c0, h, o] →
      k.toNat = n.val →
      mode.toNat ≤ 2 →
      q = (if mode = 0 then seq24 s2 s1 s0 else if mode = 1 then s.ring.nextSeq - BitVec.ofNat 24 s.ring.held
        else s.ring.nextSeq) →
      (s.channel n).state = .idle →
      (s.ring.nextSeq - q).toNat ≤ 8388608 →
      s.lnk.slotB = none →
      c = min 4095 (u16 c1 c0) →
      m = min 3 h.toNat →
      v = setChannel n (({
        state := if 0 < m then .headers else .records, owner := some src, next := q, count := c, remaining := c,
        headerCount := m, headersLeft := m, cyclic := o.getLsbD 0, closeFlag := o.getLsbD 1, recordsSent := 0,
        voidsSent := 0, status := .none } : Channel).judged s.ring.nextSeq) s →
      ∃ t, exec (.readoutOpen src tag [1, k, mode, s2, s1, s0, c1, c0, h, o]) s = .next t ∧ ArbiterFills v t ∧
      t.evc.counters = countAll .requestTaken src 1 s.now s.trv.index (afterStep v).evc.counters ∧
      TakenFrame [.rdu, .mck, .evc, .alr, .lnk] .done src s t ∧ LinkRunsOn s t ∧ QuietP s t ∧
      Replied s t src tag (if c = u16 c1 c0 ∧ m = h.toNat then .done else .clamped)
        (.opened n q s.ring.oldest s.ring.nextSeq s.ring.held)) ∧
  (∀ (s : State) (src : Addr) (tag : Byte) (k mode s2 s1 s0 c1 c0 h o : Byte) (n : Fin 4) (q : Seq),
      Takes s src [1, k, mode, s2, s1, s0, c1, c0, h, o] →
      k.toNat = n.val →
      mode.toNat ≤ 2 →
      q = (if mode = 0 then seq24 s2 s1 s0 else if mode = 1 then s.ring.nextSeq - BitVec.ofNat 24 s.ring.held
        else s.ring.nextSeq) →
      (s.channel n).state ≠ .idle →
      ∃ t, exec (.readoutOpen src tag [1, k, mode, s2, s1, s0, c1, c0, h, o]) s = .next t ∧
          Answered [] s t src tag .refusedBusy .empty) ∧
  (∀ (s : State) (src : Addr) (tag : Byte) (k mode s2 s1 s0 c1 c0 h o : Byte) (n : Fin 4) (q : Seq),
      Takes s src [1, k, mode, s2, s1, s0, c1, c0, h, o] →
      k.toNat = n.val →
      mode.toNat ≤ 2 →
      q = (if mode = 0 then seq24 s2 s1 s0 else if mode = 1 then s.ring.nextSeq - BitVec.ofNat 24 s.ring.held
        else s.ring.nextSeq) →
      (s.channel n).state = .idle →
      8388608 < (s.ring.nextSeq - q).toNat →
      ∃ t, exec (.readoutOpen src tag [1, k, mode, s2, s1, s0, c1, c0, h, o]) s = .next t ∧
          Answered [] s t src tag .refusedRange .empty) ∧
  (∀ (s : State) (src : Addr) (tag : Byte) (k : Byte) (n : Fin 4),
      Takes s src [2, k] →
      k.toNat = n.val →
      (s.channel n).state = .idle →
      ∃ t, exec (.readoutStop src tag [2, k]) s = .next t ∧ Answered [] s t src tag .done
        (.channel {
          number := n, state := (t.channel n).state, owner := (t.channel n).owner.getD 15, next := (t.channel n).next,
          count := (t.channel n).count, remaining := (t.channel n).remaining, headerCount := (t.channel n).headerCount,
          headersLeft := (t.channel n).headersLeft, cyclic := (t.channel n).cyclic,
          closeFlag := (t.channel n).closeFlag, recordsSent := (t.channel n).recordsSent,
          voidsSent := (t.channel n).voidsSent, status := (t.channel n).status, oldest := t.ring.oldest,
          nextSeq := t.ring.nextSeq, held := t.ring.held })) ∧
  (∀ (s : State) (src : Addr) (tag : Byte) (k : Byte) (n : Fin 4),
      Takes s src [2, k] →
      k.toNat = n.val →
      (s.channel n).state ≠ .idle →
      (s.channel n).owner ≠ some src →
      ∃ t, exec (.readoutStop src tag [2, k]) s = .next t ∧ Answered [] s t src tag .refusedOwner .empty) ∧
  (∀ (s : State) (src : Addr) (tag : Byte) (k : Byte) (n : Fin 4) (c : Channel),
      Takes s src [2, k] →
      k.toNat = n.val →
      c = s.channel n →
      c.state = .headers ∨ c.state = .records ∨ c.state = .wait →
      c.owner = some src →
      s.lnk.slotB.isSome = true →
      ∃ t, exec (.readoutStop src tag [2, k]) s = .next t ∧
      t.channel n = (if c.closeFlag then { c with state := .closing, status := .stopped, cyclic := false }
        else { c with state := .idle, status := .stopped, cyclic := false, owner := none }) ∧
      (∀ i, i ≠ n → t.channel i = s.channel i) ∧
      Answered [.rdu] s t src tag .done (.channel {
          number := n, state := (t.channel n).state, owner := (t.channel n).owner.getD 15, next := (t.channel n).next,
          count := (t.channel n).count, remaining := (t.channel n).remaining, headerCount := (t.channel n).headerCount,
          headersLeft := (t.channel n).headersLeft, cyclic := (t.channel n).cyclic,
          closeFlag := (t.channel n).closeFlag, recordsSent := (t.channel n).recordsSent,
          voidsSent := (t.channel n).voidsSent, status := (t.channel n).status, oldest := t.ring.oldest,
          nextSeq := t.ring.nextSeq, held := t.ring.held })) ∧
  (∀ (s : State) (src : Addr) (tag : Byte) (k : Byte) (n : Fin 4),
      Takes s src [2, k] →
      k.toNat = n.val →
      (s.channel n).state = .closing →
      (s.channel n).owner = some src →
      s.lnk.slotB.isSome = true →
      ∃ t, exec (.readoutStop src tag [2, k]) s = .next t ∧ t.rdu = s.rdu ∧ Answered [] s t src tag .done
        (.channel {
          number := n, state := (t.channel n).state, owner := (t.channel n).owner.getD 15, next := (t.channel n).next,
          count := (t.channel n).count, remaining := (t.channel n).remaining, headerCount := (t.channel n).headerCount,
          headersLeft := (t.channel n).headersLeft, cyclic := (t.channel n).cyclic,
          closeFlag := (t.channel n).closeFlag, recordsSent := (t.channel n).recordsSent,
          voidsSent := (t.channel n).voidsSent, status := (t.channel n).status, oldest := t.ring.oldest,
          nextSeq := t.ring.nextSeq, held := t.ring.held })) ∧
  (∀ (s v : State) (src : Addr) (tag k : Byte) (n : Fin 4) (c : Channel),
      Takes s src [2, k] →
      k.toNat = n.val →
      c = s.channel n →
      c.state ≠ .idle →
      c.owner = some src →
      s.lnk.slotB = none →
      v = setChannel n (if c.state = .closing then c
        else if c.closeFlag then { c with state := .closing, status := .stopped, cyclic := false }
        else { c with state := .idle, status := .stopped, cyclic := false, owner := none }) s →
      ∃ t, exec (.readoutStop src tag [2, k]) s = .next t ∧ ArbiterFills v t ∧
      t.evc.counters = countAll .requestTaken src 1 s.now s.trv.index (afterStep v).evc.counters ∧
      TakenFrame [.rdu, .mck, .evc, .alr, .lnk] .done src s t ∧ LinkRunsOn s t ∧ QuietP s t ∧
      Replied s t src tag .done (.channel {
          number := n, state := (t.channel n).state, owner := (t.channel n).owner.getD 15, next := (t.channel n).next,
          count := (t.channel n).count, remaining := (t.channel n).remaining, headerCount := (t.channel n).headerCount,
          headersLeft := (t.channel n).headersLeft, cyclic := (t.channel n).cyclic,
          closeFlag := (t.channel n).closeFlag, recordsSent := (t.channel n).recordsSent,
          voidsSent := (t.channel n).voidsSent, status := (t.channel n).status, oldest := t.ring.oldest,
          nextSeq := t.ring.nextSeq, held := t.ring.held })) ∧
  (∀ (s : State) (src : Addr) (tag : Byte) (k : Byte) (n : Fin 4),
      Takes s src [3, k] →
      k.toNat = n.val →
      ∃ t, exec (.readoutStatus src tag [3, k]) s = .next t ∧ Answered [] s t src tag .done
        (.channel {
          number := n, state := (t.channel n).state, owner := (t.channel n).owner.getD 15, next := (t.channel n).next,
          count := (t.channel n).count, remaining := (t.channel n).remaining, headerCount := (t.channel n).headerCount,
          headersLeft := (t.channel n).headersLeft, cyclic := (t.channel n).cyclic,
          closeFlag := (t.channel n).closeFlag, recordsSent := (t.channel n).recordsSent,
          voidsSent := (t.channel n).voidsSent, status := (t.channel n).status, oldest := t.ring.oldest,
          nextSeq := t.ring.nextSeq, held := t.ring.held })) ∧
  (∀ (s : State) (src : Addr) (tag : Byte) (c : Instr) (payload : List Byte),
      Takes s src payload →
      c = .readoutOpen src tag payload ∨ c = .readoutStop src tag payload ∨ c = .readoutStatus src tag payload →
      (payload.head?.any fun op => decide (op = 0 ∨ 3 < op.toNat)) = true ∨
        (payload.head? = some 1 ∧ payload.length = 10 ∧ (3 < (payload.getD 1 0).toNat ∨ 2 < (payload.getD 2 0).toNat)) ∨
        ((payload.head? = some 2 ∨ payload.head? = some 3) ∧ payload.length = 2 ∧ 3 < (payload.getD 1 0).toNat) →
      ∃ t, exec c s = .next t ∧ Answered [] s t src tag .unknown .empty) ∧
  (∀ (s : State) (src : Addr) (tag : Byte) (c : Instr) (payload : List Byte),
      Takes s src payload →
      c = .readoutOpen src tag payload ∨ c = .readoutStop src tag payload ∨ c = .readoutStatus src tag payload →
      payload = [] ∨ (payload.head? = some 1 ∧ payload.length ≠ 10) ∨
        ((payload.head? = some 2 ∨ payload.head? = some 3) ∧ payload.length ≠ 2) →
      ∃ t, exec c s = .next t ∧ Answered [] s t src tag .refusedFormat .empty)

/-- In every node state. SELECT sets the selection with value 0 and no capture, THRESHOLD the threshold, both keeping
    the rest (SELECT's DONE carries counter, selection and threshold, THRESHOLD's nothing); READ reports all four
    counters and the named capture as they stood and with clear flag 1 sets every value to 0 without captures; event 5
    is counted after the action (log 11), and a counter with a filled capture reaches no threshold by it, one raised
    since included (the model's choice, log 58). MASK-SET enables the named sources 1 to 12 and queues, behind the
    REPLY, an ALERT frame for each newly enabled present one, lowest first, as far as the list has room; MASK-CLEAR
    inhibits them; ACK makes the named latched sources 4, 5, 8, 11 and 12 absent; QUERY changes nothing; each is DONE
    with present set, mask and highest-priority number after it has acted, the lowest-numbered source present and
    enabled or 0. CHECK READ reports capture and flags as they stood, then empties the capture and clears pending and
    overflow, source 7 absent; PARITY-TEST sets the armed flag. Unknown sub-operations, counters above 3, events above
    24 and clear flags above 1 are UNKNOWN, other lengths REFUSED-FORMAT; the order of sub-operation, length and
    values is log 12. -/
def Obligations.CounterAlertCheckRequestsAct : Prop :=
  (∀ (s : State) (src : Addr) (tag : Byte) (k e : Byte) (n : Fin 4) (v : Vector Counter 4),
      Takes s src [1, k, e] →
      k.toNat = n.val →
      e.toNat ≤ 24 →
      v = s.evc.counters.set n { s.counter n with selection := e.toNat, value := 0, capture := none } →
      ∃ t, exec (.counterSelect src tag [1, k, e]) s = .next t ∧
          t.evc.counters = countAll .requestTaken src 1 s.now s.trv.index v ∧ t.alr.mask = s.alr.mask ∧
      t.alr.present = presentAfter .requestTaken 1 (s.setEvc { counters := v }) ∧
      Answered [.evc, .alr] s t src tag .done (.counter n e.toNat (s.counter n).threshold)) ∧
  (∀ (s : State) (src : Addr) (tag : Byte) (k t2 t1 t0 : Byte) (n : Fin 4) (v : Vector Counter 4),
      Takes s src [3, k, t2, t1, t0] →
      k.toNat = n.val →
      v = s.evc.counters.set n { s.counter n with threshold := (seq24 t2 t1 t0).toNat } →
      ∃ t, exec (.counterThreshold src tag [3, k, t2, t1, t0]) s = .next t ∧
          t.evc.counters = countAll .requestTaken src 1 s.now s.trv.index v ∧ t.alr.mask = s.alr.mask ∧
      t.alr.present = presentAfter .requestTaken 1 (s.setEvc { counters := v }) ∧
      Answered [.evc, .alr] s t src tag .done .empty) ∧
  (∀ (s : State) (src : Addr) (tag : Byte) (k f : Byte) (n : Fin 4) (v : Vector Counter 4),
      Takes s src [2, k, f] →
      k.toNat = n.val →
      f.toNat ≤ 1 →
      v = (if f = 1 then s.evc.counters.map fun c => { c with value := 0, capture := none } else s.evc.counters) →
      ∃ t, exec (.counterRead src tag [2, k, f]) s = .next t ∧
          t.evc.counters = countAll .requestTaken src 1 s.now s.trv.index v ∧ t.alr.mask = s.alr.mask ∧
      t.alr.present = presentAfter .requestTaken 1 (s.setEvc { counters := v }) ∧
      Answered [.evc, .alr] s t src tag .done (.counters
        (s.evc.counters.map fun c =>
          { selection := c.selection, filled := c.capture.isSome, value := c.value, threshold := c.threshold })
        (s.counter n).capture)) ∧
  (∀ (s : State) (src : Addr) (tag : Byte) (hi lo : Byte) (m : Bits) (l : List Frame),
      Takes s src [1, hi, lo] →
      LinkLaw s →
      m = s.alr.mask ||| (set16 hi lo &&& 0x0FFF) →
      l = (alertSources.filter fun a => hasBit m (a.number - 1) && !hasBit s.alr.mask (a.number - 1) &&
          hasBit s.alr.present (a.number - 1)).map (fun a => ({
        dst := 15, tag := 0, resets := false,
        body := .alert { source := a.number, present := s.alr.present, mask := m } } : Frame)) →
      ∃ t, exec (.alertMaskSet src tag [1, hi, lo]) s = .next t ∧
      t.alr = { present := presentAfter .requestTaken 1 s, mask := m } ∧
      ((queuedU t).drop ((queuedU s).length + 1)).take (min l.length (4 - (queuedU s).length)) =
        l.take (4 - (queuedU s).length) ∧
      Answered [.alr] s t src tag .done (.alerts s.alr.present m
          (highestAlert { present := s.alr.present, mask := m }))) ∧
  (∀ (s : State) (src : Addr) (tag : Byte) (hi lo : Byte) (m : Bits),
      Takes s src [2, hi, lo] →
      m = s.alr.mask &&& ~~~ set16 hi lo →
      ∃ t, exec (.alertMaskClear src tag [2, hi, lo]) s = .next t ∧
      t.alr = { present := presentAfter .requestTaken 1 s, mask := m } ∧
      Answered [.alr] s t src tag .done (.alerts s.alr.present m
          (highestAlert { present := s.alr.present, mask := m }))) ∧
  (∀ (s : State) (src : Addr) (tag : Byte),
      Takes s src [3] →
      ∃ t, exec (.alertQuery src tag [3]) s = .next t ∧
      Answered [] s t src tag .done (.alerts s.alr.present s.alr.mask
          (highestAlert { present := s.alr.present, mask := s.alr.mask }))) ∧
  (∀ (s : State) (src : Addr) (tag : Byte) (hi lo : Byte) (p : Bits),
      Takes s src [4, hi, lo] →
      p = s.alr.present &&& ~~~ (set16 hi lo &&& 0x0C98) →
      ∃ t, exec (.alertAck src tag [4, hi, lo]) s = .next t ∧
      t.alr = { present := presentAfter .requestTaken 1 (s.setAlr { s.alr with present := p }), mask := s.alr.mask } ∧
      Answered [.alr] s t src tag .done (.alerts p s.alr.mask (highestAlert { present := p, mask := s.alr.mask }))) ∧
  (∀ (a : Alr) (h : Nat),
      h = highestAlert a →
      (h = 0 ↔ a.present &&& a.mask &&& 0x0FFF = 0) ∧
      (h ≠ 0 → h ≤ 12 ∧ hasBit (a.present &&& a.mask) (h - 1) = true ∧
        ∀ i : Fin 12, i.val + 1 < h → hasBit (a.present &&& a.mask) i = false)) ∧
  (∀ (s : State) (src : Addr) (tag : Byte),
      Takes s src [1] →
      ∃ t, exec (.checkRead src tag [1]) s = .next t ∧
      t.mck = { s.mck with capture := none, pending := false, overflow := false } ∧
      t.alr = { present := presentAfter .requestTaken 1 (s.setAlr
                  { s.alr with present := s.alr.present &&& ~~~ 0x0040 }),
                mask := s.alr.mask } ∧
      Answered [.mck, .alr] s t src tag .done (.check s.mck.capture s.mck.pending s.mck.overflow s.mck.armed)) ∧
  (∀ (s : State) (src : Addr) (tag : Byte),
      Takes s src [2] →
      ∃ t, exec (.checkParityTest src tag [2]) s = .next t ∧ t.mck = { s.mck with armed := true } ∧
      Answered [.mck] s t src tag .done .empty) ∧
  (∀ (s : State) (src : Addr) (tag : Byte) (c : Instr) (payload : List Byte),
      Takes s src payload →
      ((c = .counterSelect src tag payload ∨ c = .counterRead src tag payload ∨ c = .counterThreshold src tag payload) ∧
          ((payload.head?.any fun op => decide (op = 0 ∨ 3 < op.toNat)) = true ∨
            ((payload.head? = some 1 ∨ payload.head? = some 2) ∧ payload.length = 3 ∧ 3 < (payload.getD 1 0).toNat) ∨
            (payload.head? = some 1 ∧ payload.length = 3 ∧ 24 < (payload.getD 2 0).toNat) ∨
            (payload.head? = some 2 ∧ payload.length = 3 ∧ 1 < (payload.getD 2 0).toNat) ∨
            (payload.head? = some 3 ∧ payload.length = 5 ∧ 3 < (payload.getD 1 0).toNat))) ∨
        ((c = .alertMaskSet src tag payload ∨ c = .alertMaskClear src tag payload ∨ c = .alertQuery src tag payload ∨
            c = .alertAck src tag payload) ∧
          (payload.head?.any fun op => decide (op = 0 ∨ 4 < op.toNat)) = true) ∨
        ((c = .checkRead src tag payload ∨ c = .checkParityTest src tag payload) ∧ payload.length = 1 ∧
            payload.head? ≠ some 1 ∧ payload.head? ≠ some 2) →
      ∃ t, exec c s = .next t ∧ Answered [] s t src tag .unknown .empty) ∧
  (∀ (s : State) (src : Addr) (tag : Byte) (c : Instr) (payload : List Byte),
      Takes s src payload →
      ((c = .counterSelect src tag payload ∨ c = .counterRead src tag payload ∨ c = .counterThreshold src tag payload) ∧
          (payload = [] ∨ ((payload.head? = some 1 ∨ payload.head? = some 2) ∧ payload.length ≠ 3) ∨
            (payload.head? = some 3 ∧ payload.length ≠ 5))) ∨
        ((c = .alertMaskSet src tag payload ∨ c = .alertMaskClear src tag payload ∨ c = .alertQuery src tag payload ∨
            c = .alertAck src tag payload) ∧
          (payload = [] ∨ (payload.head? = some 3 ∧ payload.length ≠ 1) ∨
            ((payload.head? = some 1 ∨ payload.head? = some 2 ∨ payload.head? = some 4) ∧ payload.length ≠ 3))) ∨
        ((c = .checkRead src tag payload ∨ c = .checkParityTest src tag payload) ∧ payload.length ≠ 1) →
      ∃ t, exec c s = .next t ∧ Answered [] s t src tag .refusedFormat .empty)
end

