-- ==== Sys2Proof/Laws/State.lean ====
section
/-! SUPPORT. One lemma per field per update of the state: what each `State.set…` leaves in each part. -/

namespace Sys2Proof.Machine

variable (s : State)

/-! ### `State.setNow` -/

@[simp] theorem State.setNow_now (x : Time) : (s.setNow x).now = x := rfl
@[simp] theorem State.setNow_resetLine (x : Time) : (s.setNow x).resetLine = s.resetLine := rfl
@[simp] theorem State.setNow_haltInput (x : Time) : (s.setNow x).haltInput = s.haltInput := rfl
@[simp] theorem State.setNow_pins (x : Time) : (s.setNow x).pins = s.pins := rfl
@[simp] theorem State.setNow_strapReadings (x : Time) : (s.setNow x).strapReadings = s.strapReadings := rfl
@[simp] theorem State.setNow_cfg (x : Time) : (s.setNow x).cfg = s.cfg := rfl
@[simp] theorem State.setNow_lnk (x : Time) : (s.setNow x).lnk = s.lnk := rfl
@[simp] theorem State.setNow_ptb (x : Time) : (s.setNow x).ptb = s.ptb := rfl
@[simp] theorem State.setNow_trv (x : Time) : (s.setNow x).trv = s.trv := rfl
@[simp] theorem State.setNow_zht (x : Time) : (s.setNow x).zht = s.zht := rfl
@[simp] theorem State.setNow_gsu (x : Time) : (s.setNow x).gsu = s.gsu := rfl
@[simp] theorem State.setNow_lvc (x : Time) : (s.setNow x).lvc = s.lvc := rfl
@[simp] theorem State.setNow_fdc (x : Time) : (s.setNow x).fdc = s.fdc := rfl
@[simp] theorem State.setNow_msi (x : Time) : (s.setNow x).msi = s.msi := rfl
@[simp] theorem State.setNow_ring (x : Time) : (s.setNow x).ring = s.ring := rfl
@[simp] theorem State.setNow_rdu (x : Time) : (s.setNow x).rdu = s.rdu := rfl
@[simp] theorem State.setNow_mck (x : Time) : (s.setNow x).mck = s.mck := rfl
@[simp] theorem State.setNow_evc (x : Time) : (s.setNow x).evc = s.evc := rfl
@[simp] theorem State.setNow_alr (x : Time) : (s.setNow x).alr = s.alr := rfl
@[simp] theorem State.setNow_pending (x : Time) : (s.setNow x).pending = s.pending := rfl

/-! ### `State.setResetLine` -/

@[simp] theorem State.setResetLine_now (x : Bool) : (s.setResetLine x).now = s.now := rfl
@[simp] theorem State.setResetLine_resetLine (x : Bool) : (s.setResetLine x).resetLine = x := rfl
@[simp] theorem State.setResetLine_haltInput (x : Bool) : (s.setResetLine x).haltInput = s.haltInput := rfl
@[simp] theorem State.setResetLine_pins (x : Bool) : (s.setResetLine x).pins = s.pins := rfl
@[simp] theorem State.setResetLine_strapReadings (x : Bool) : (s.setResetLine x).strapReadings = s.strapReadings := rfl
@[simp] theorem State.setResetLine_cfg (x : Bool) : (s.setResetLine x).cfg = s.cfg := rfl
@[simp] theorem State.setResetLine_lnk (x : Bool) : (s.setResetLine x).lnk = s.lnk := rfl
@[simp] theorem State.setResetLine_ptb (x : Bool) : (s.setResetLine x).ptb = s.ptb := rfl
@[simp] theorem State.setResetLine_trv (x : Bool) : (s.setResetLine x).trv = s.trv := rfl
@[simp] theorem State.setResetLine_zht (x : Bool) : (s.setResetLine x).zht = s.zht := rfl
@[simp] theorem State.setResetLine_gsu (x : Bool) : (s.setResetLine x).gsu = s.gsu := rfl
@[simp] theorem State.setResetLine_lvc (x : Bool) : (s.setResetLine x).lvc = s.lvc := rfl
@[simp] theorem State.setResetLine_fdc (x : Bool) : (s.setResetLine x).fdc = s.fdc := rfl
@[simp] theorem State.setResetLine_msi (x : Bool) : (s.setResetLine x).msi = s.msi := rfl
@[simp] theorem State.setResetLine_ring (x : Bool) : (s.setResetLine x).ring = s.ring := rfl
@[simp] theorem State.setResetLine_rdu (x : Bool) : (s.setResetLine x).rdu = s.rdu := rfl
@[simp] theorem State.setResetLine_mck (x : Bool) : (s.setResetLine x).mck = s.mck := rfl
@[simp] theorem State.setResetLine_evc (x : Bool) : (s.setResetLine x).evc = s.evc := rfl
@[simp] theorem State.setResetLine_alr (x : Bool) : (s.setResetLine x).alr = s.alr := rfl
@[simp] theorem State.setResetLine_pending (x : Bool) : (s.setResetLine x).pending = s.pending := rfl

/-! ### `State.setHaltInput` -/

@[simp] theorem State.setHaltInput_now (x : Bool) : (s.setHaltInput x).now = s.now := rfl
@[simp] theorem State.setHaltInput_resetLine (x : Bool) : (s.setHaltInput x).resetLine = s.resetLine := rfl
@[simp] theorem State.setHaltInput_haltInput (x : Bool) : (s.setHaltInput x).haltInput = x := rfl
@[simp] theorem State.setHaltInput_pins (x : Bool) : (s.setHaltInput x).pins = s.pins := rfl
@[simp] theorem State.setHaltInput_strapReadings (x : Bool) : (s.setHaltInput x).strapReadings = s.strapReadings := rfl
@[simp] theorem State.setHaltInput_cfg (x : Bool) : (s.setHaltInput x).cfg = s.cfg := rfl
@[simp] theorem State.setHaltInput_lnk (x : Bool) : (s.setHaltInput x).lnk = s.lnk := rfl
@[simp] theorem State.setHaltInput_ptb (x : Bool) : (s.setHaltInput x).ptb = s.ptb := rfl
@[simp] theorem State.setHaltInput_trv (x : Bool) : (s.setHaltInput x).trv = s.trv := rfl
@[simp] theorem State.setHaltInput_zht (x : Bool) : (s.setHaltInput x).zht = s.zht := rfl
@[simp] theorem State.setHaltInput_gsu (x : Bool) : (s.setHaltInput x).gsu = s.gsu := rfl
@[simp] theorem State.setHaltInput_lvc (x : Bool) : (s.setHaltInput x).lvc = s.lvc := rfl
@[simp] theorem State.setHaltInput_fdc (x : Bool) : (s.setHaltInput x).fdc = s.fdc := rfl
@[simp] theorem State.setHaltInput_msi (x : Bool) : (s.setHaltInput x).msi = s.msi := rfl
@[simp] theorem State.setHaltInput_ring (x : Bool) : (s.setHaltInput x).ring = s.ring := rfl
@[simp] theorem State.setHaltInput_rdu (x : Bool) : (s.setHaltInput x).rdu = s.rdu := rfl
@[simp] theorem State.setHaltInput_mck (x : Bool) : (s.setHaltInput x).mck = s.mck := rfl
@[simp] theorem State.setHaltInput_evc (x : Bool) : (s.setHaltInput x).evc = s.evc := rfl
@[simp] theorem State.setHaltInput_alr (x : Bool) : (s.setHaltInput x).alr = s.alr := rfl
@[simp] theorem State.setHaltInput_pending (x : Bool) : (s.setHaltInput x).pending = s.pending := rfl

/-! ### `State.setPins` -/

@[simp] theorem State.setPins_now (x : StrapPins) : (s.setPins x).now = s.now := rfl
@[simp] theorem State.setPins_resetLine (x : StrapPins) : (s.setPins x).resetLine = s.resetLine := rfl
@[simp] theorem State.setPins_haltInput (x : StrapPins) : (s.setPins x).haltInput = s.haltInput := rfl
@[simp] theorem State.setPins_pins (x : StrapPins) : (s.setPins x).pins = x := rfl
@[simp] theorem State.setPins_strapReadings (x : StrapPins) : (s.setPins x).strapReadings = s.strapReadings := rfl
@[simp] theorem State.setPins_cfg (x : StrapPins) : (s.setPins x).cfg = s.cfg := rfl
@[simp] theorem State.setPins_lnk (x : StrapPins) : (s.setPins x).lnk = s.lnk := rfl
@[simp] theorem State.setPins_ptb (x : StrapPins) : (s.setPins x).ptb = s.ptb := rfl
@[simp] theorem State.setPins_trv (x : StrapPins) : (s.setPins x).trv = s.trv := rfl
@[simp] theorem State.setPins_zht (x : StrapPins) : (s.setPins x).zht = s.zht := rfl
@[simp] theorem State.setPins_gsu (x : StrapPins) : (s.setPins x).gsu = s.gsu := rfl
@[simp] theorem State.setPins_lvc (x : StrapPins) : (s.setPins x).lvc = s.lvc := rfl
@[simp] theorem State.setPins_fdc (x : StrapPins) : (s.setPins x).fdc = s.fdc := rfl
@[simp] theorem State.setPins_msi (x : StrapPins) : (s.setPins x).msi = s.msi := rfl
@[simp] theorem State.setPins_ring (x : StrapPins) : (s.setPins x).ring = s.ring := rfl
@[simp] theorem State.setPins_rdu (x : StrapPins) : (s.setPins x).rdu = s.rdu := rfl
@[simp] theorem State.setPins_mck (x : StrapPins) : (s.setPins x).mck = s.mck := rfl
@[simp] theorem State.setPins_evc (x : StrapPins) : (s.setPins x).evc = s.evc := rfl
@[simp] theorem State.setPins_alr (x : StrapPins) : (s.setPins x).alr = s.alr := rfl
@[simp] theorem State.setPins_pending (x : StrapPins) : (s.setPins x).pending = s.pending := rfl

/-! ### `State.setStrapReadings` -/

@[simp] theorem State.setStrapReadings_now (x : Nat) : (s.setStrapReadings x).now = s.now := rfl
@[simp] theorem State.setStrapReadings_resetLine (x : Nat) : (s.setStrapReadings x).resetLine = s.resetLine := rfl
@[simp] theorem State.setStrapReadings_haltInput (x : Nat) : (s.setStrapReadings x).haltInput = s.haltInput := rfl
@[simp] theorem State.setStrapReadings_pins (x : Nat) : (s.setStrapReadings x).pins = s.pins := rfl
@[simp] theorem State.setStrapReadings_strapReadings (x : Nat) : (s.setStrapReadings x).strapReadings = x := rfl
@[simp] theorem State.setStrapReadings_cfg (x : Nat) : (s.setStrapReadings x).cfg = s.cfg := rfl
@[simp] theorem State.setStrapReadings_lnk (x : Nat) : (s.setStrapReadings x).lnk = s.lnk := rfl
@[simp] theorem State.setStrapReadings_ptb (x : Nat) : (s.setStrapReadings x).ptb = s.ptb := rfl
@[simp] theorem State.setStrapReadings_trv (x : Nat) : (s.setStrapReadings x).trv = s.trv := rfl
@[simp] theorem State.setStrapReadings_zht (x : Nat) : (s.setStrapReadings x).zht = s.zht := rfl
@[simp] theorem State.setStrapReadings_gsu (x : Nat) : (s.setStrapReadings x).gsu = s.gsu := rfl
@[simp] theorem State.setStrapReadings_lvc (x : Nat) : (s.setStrapReadings x).lvc = s.lvc := rfl
@[simp] theorem State.setStrapReadings_fdc (x : Nat) : (s.setStrapReadings x).fdc = s.fdc := rfl
@[simp] theorem State.setStrapReadings_msi (x : Nat) : (s.setStrapReadings x).msi = s.msi := rfl
@[simp] theorem State.setStrapReadings_ring (x : Nat) : (s.setStrapReadings x).ring = s.ring := rfl
@[simp] theorem State.setStrapReadings_rdu (x : Nat) : (s.setStrapReadings x).rdu = s.rdu := rfl
@[simp] theorem State.setStrapReadings_mck (x : Nat) : (s.setStrapReadings x).mck = s.mck := rfl
@[simp] theorem State.setStrapReadings_evc (x : Nat) : (s.setStrapReadings x).evc = s.evc := rfl
@[simp] theorem State.setStrapReadings_alr (x : Nat) : (s.setStrapReadings x).alr = s.alr := rfl
@[simp] theorem State.setStrapReadings_pending (x : Nat) : (s.setStrapReadings x).pending = s.pending := rfl

/-! ### `State.setCfg` -/

@[simp] theorem State.setCfg_now (x : Cfg) : (s.setCfg x).now = s.now := rfl
@[simp] theorem State.setCfg_resetLine (x : Cfg) : (s.setCfg x).resetLine = s.resetLine := rfl
@[simp] theorem State.setCfg_haltInput (x : Cfg) : (s.setCfg x).haltInput = s.haltInput := rfl
@[simp] theorem State.setCfg_pins (x : Cfg) : (s.setCfg x).pins = s.pins := rfl
@[simp] theorem State.setCfg_strapReadings (x : Cfg) : (s.setCfg x).strapReadings = s.strapReadings := rfl
@[simp] theorem State.setCfg_cfg (x : Cfg) : (s.setCfg x).cfg = x := rfl
@[simp] theorem State.setCfg_lnk (x : Cfg) : (s.setCfg x).lnk = s.lnk := rfl
@[simp] theorem State.setCfg_ptb (x : Cfg) : (s.setCfg x).ptb = s.ptb := rfl
@[simp] theorem State.setCfg_trv (x : Cfg) : (s.setCfg x).trv = s.trv := rfl
@[simp] theorem State.setCfg_zht (x : Cfg) : (s.setCfg x).zht = s.zht := rfl
@[simp] theorem State.setCfg_gsu (x : Cfg) : (s.setCfg x).gsu = s.gsu := rfl
@[simp] theorem State.setCfg_lvc (x : Cfg) : (s.setCfg x).lvc = s.lvc := rfl
@[simp] theorem State.setCfg_fdc (x : Cfg) : (s.setCfg x).fdc = s.fdc := rfl
@[simp] theorem State.setCfg_msi (x : Cfg) : (s.setCfg x).msi = s.msi := rfl
@[simp] theorem State.setCfg_ring (x : Cfg) : (s.setCfg x).ring = s.ring := rfl
@[simp] theorem State.setCfg_rdu (x : Cfg) : (s.setCfg x).rdu = s.rdu := rfl
@[simp] theorem State.setCfg_mck (x : Cfg) : (s.setCfg x).mck = s.mck := rfl
@[simp] theorem State.setCfg_evc (x : Cfg) : (s.setCfg x).evc = s.evc := rfl
@[simp] theorem State.setCfg_alr (x : Cfg) : (s.setCfg x).alr = s.alr := rfl
@[simp] theorem State.setCfg_pending (x : Cfg) : (s.setCfg x).pending = s.pending := rfl

/-! ### `State.setLnk` -/

@[simp] theorem State.setLnk_now (x : Lnk) : (s.setLnk x).now = s.now := rfl
@[simp] theorem State.setLnk_resetLine (x : Lnk) : (s.setLnk x).resetLine = s.resetLine := rfl
@[simp] theorem State.setLnk_haltInput (x : Lnk) : (s.setLnk x).haltInput = s.haltInput := rfl
@[simp] theorem State.setLnk_pins (x : Lnk) : (s.setLnk x).pins = s.pins := rfl
@[simp] theorem State.setLnk_strapReadings (x : Lnk) : (s.setLnk x).strapReadings = s.strapReadings := rfl
@[simp] theorem State.setLnk_cfg (x : Lnk) : (s.setLnk x).cfg = s.cfg := rfl
@[simp] theorem State.setLnk_lnk (x : Lnk) : (s.setLnk x).lnk = x := rfl
@[simp] theorem State.setLnk_ptb (x : Lnk) : (s.setLnk x).ptb = s.ptb := rfl
@[simp] theorem State.setLnk_trv (x : Lnk) : (s.setLnk x).trv = s.trv := rfl
@[simp] theorem State.setLnk_zht (x : Lnk) : (s.setLnk x).zht = s.zht := rfl
@[simp] theorem State.setLnk_gsu (x : Lnk) : (s.setLnk x).gsu = s.gsu := rfl
@[simp] theorem State.setLnk_lvc (x : Lnk) : (s.setLnk x).lvc = s.lvc := rfl
@[simp] theorem State.setLnk_fdc (x : Lnk) : (s.setLnk x).fdc = s.fdc := rfl
@[simp] theorem State.setLnk_msi (x : Lnk) : (s.setLnk x).msi = s.msi := rfl
@[simp] theorem State.setLnk_ring (x : Lnk) : (s.setLnk x).ring = s.ring := rfl
@[simp] theorem State.setLnk_rdu (x : Lnk) : (s.setLnk x).rdu = s.rdu := rfl
@[simp] theorem State.setLnk_mck (x : Lnk) : (s.setLnk x).mck = s.mck := rfl
@[simp] theorem State.setLnk_evc (x : Lnk) : (s.setLnk x).evc = s.evc := rfl
@[simp] theorem State.setLnk_alr (x : Lnk) : (s.setLnk x).alr = s.alr := rfl
@[simp] theorem State.setLnk_pending (x : Lnk) : (s.setLnk x).pending = s.pending := rfl

/-! ### `State.setPtb` -/

@[simp] theorem State.setPtb_now (x : Ptb) : (s.setPtb x).now = s.now := rfl
@[simp] theorem State.setPtb_resetLine (x : Ptb) : (s.setPtb x).resetLine = s.resetLine := rfl
@[simp] theorem State.setPtb_haltInput (x : Ptb) : (s.setPtb x).haltInput = s.haltInput := rfl
@[simp] theorem State.setPtb_pins (x : Ptb) : (s.setPtb x).pins = s.pins := rfl
@[simp] theorem State.setPtb_strapReadings (x : Ptb) : (s.setPtb x).strapReadings = s.strapReadings := rfl
@[simp] theorem State.setPtb_cfg (x : Ptb) : (s.setPtb x).cfg = s.cfg := rfl
@[simp] theorem State.setPtb_lnk (x : Ptb) : (s.setPtb x).lnk = s.lnk := rfl
@[simp] theorem State.setPtb_ptb (x : Ptb) : (s.setPtb x).ptb = x := rfl
@[simp] theorem State.setPtb_trv (x : Ptb) : (s.setPtb x).trv = s.trv := rfl
@[simp] theorem State.setPtb_zht (x : Ptb) : (s.setPtb x).zht = s.zht := rfl
@[simp] theorem State.setPtb_gsu (x : Ptb) : (s.setPtb x).gsu = s.gsu := rfl
@[simp] theorem State.setPtb_lvc (x : Ptb) : (s.setPtb x).lvc = s.lvc := rfl
@[simp] theorem State.setPtb_fdc (x : Ptb) : (s.setPtb x).fdc = s.fdc := rfl
@[simp] theorem State.setPtb_msi (x : Ptb) : (s.setPtb x).msi = s.msi := rfl
@[simp] theorem State.setPtb_ring (x : Ptb) : (s.setPtb x).ring = s.ring := rfl
@[simp] theorem State.setPtb_rdu (x : Ptb) : (s.setPtb x).rdu = s.rdu := rfl
@[simp] theorem State.setPtb_mck (x : Ptb) : (s.setPtb x).mck = s.mck := rfl
@[simp] theorem State.setPtb_evc (x : Ptb) : (s.setPtb x).evc = s.evc := rfl
@[simp] theorem State.setPtb_alr (x : Ptb) : (s.setPtb x).alr = s.alr := rfl
@[simp] theorem State.setPtb_pending (x : Ptb) : (s.setPtb x).pending = s.pending := rfl

/-! ### `State.setTrv` -/

@[simp] theorem State.setTrv_now (x : Trv) : (s.setTrv x).now = s.now := rfl
@[simp] theorem State.setTrv_resetLine (x : Trv) : (s.setTrv x).resetLine = s.resetLine := rfl
@[simp] theorem State.setTrv_haltInput (x : Trv) : (s.setTrv x).haltInput = s.haltInput := rfl
@[simp] theorem State.setTrv_pins (x : Trv) : (s.setTrv x).pins = s.pins := rfl
@[simp] theorem State.setTrv_strapReadings (x : Trv) : (s.setTrv x).strapReadings = s.strapReadings := rfl
@[simp] theorem State.setTrv_cfg (x : Trv) : (s.setTrv x).cfg = s.cfg := rfl
@[simp] theorem State.setTrv_lnk (x : Trv) : (s.setTrv x).lnk = s.lnk := rfl
@[simp] theorem State.setTrv_ptb (x : Trv) : (s.setTrv x).ptb = s.ptb := rfl
@[simp] theorem State.setTrv_trv (x : Trv) : (s.setTrv x).trv = x := rfl
@[simp] theorem State.setTrv_zht (x : Trv) : (s.setTrv x).zht = s.zht := rfl
@[simp] theorem State.setTrv_gsu (x : Trv) : (s.setTrv x).gsu = s.gsu := rfl
@[simp] theorem State.setTrv_lvc (x : Trv) : (s.setTrv x).lvc = s.lvc := rfl
@[simp] theorem State.setTrv_fdc (x : Trv) : (s.setTrv x).fdc = s.fdc := rfl
@[simp] theorem State.setTrv_msi (x : Trv) : (s.setTrv x).msi = s.msi := rfl
@[simp] theorem State.setTrv_ring (x : Trv) : (s.setTrv x).ring = s.ring := rfl
@[simp] theorem State.setTrv_rdu (x : Trv) : (s.setTrv x).rdu = s.rdu := rfl
@[simp] theorem State.setTrv_mck (x : Trv) : (s.setTrv x).mck = s.mck := rfl
@[simp] theorem State.setTrv_evc (x : Trv) : (s.setTrv x).evc = s.evc := rfl
@[simp] theorem State.setTrv_alr (x : Trv) : (s.setTrv x).alr = s.alr := rfl
@[simp] theorem State.setTrv_pending (x : Trv) : (s.setTrv x).pending = s.pending := rfl

/-! ### `State.setZht` -/

@[simp] theorem State.setZht_now (x : Zht) : (s.setZht x).now = s.now := rfl
@[simp] theorem State.setZht_resetLine (x : Zht) : (s.setZht x).resetLine = s.resetLine := rfl
@[simp] theorem State.setZht_haltInput (x : Zht) : (s.setZht x).haltInput = s.haltInput := rfl
@[simp] theorem State.setZht_pins (x : Zht) : (s.setZht x).pins = s.pins := rfl
@[simp] theorem State.setZht_strapReadings (x : Zht) : (s.setZht x).strapReadings = s.strapReadings := rfl
@[simp] theorem State.setZht_cfg (x : Zht) : (s.setZht x).cfg = s.cfg := rfl
@[simp] theorem State.setZht_lnk (x : Zht) : (s.setZht x).lnk = s.lnk := rfl
@[simp] theorem State.setZht_ptb (x : Zht) : (s.setZht x).ptb = s.ptb := rfl
@[simp] theorem State.setZht_trv (x : Zht) : (s.setZht x).trv = s.trv := rfl
@[simp] theorem State.setZht_zht (x : Zht) : (s.setZht x).zht = x := rfl
@[simp] theorem State.setZht_gsu (x : Zht) : (s.setZht x).gsu = s.gsu := rfl
@[simp] theorem State.setZht_lvc (x : Zht) : (s.setZht x).lvc = s.lvc := rfl
@[simp] theorem State.setZht_fdc (x : Zht) : (s.setZht x).fdc = s.fdc := rfl
@[simp] theorem State.setZht_msi (x : Zht) : (s.setZht x).msi = s.msi := rfl
@[simp] theorem State.setZht_ring (x : Zht) : (s.setZht x).ring = s.ring := rfl
@[simp] theorem State.setZht_rdu (x : Zht) : (s.setZht x).rdu = s.rdu := rfl
@[simp] theorem State.setZht_mck (x : Zht) : (s.setZht x).mck = s.mck := rfl
@[simp] theorem State.setZht_evc (x : Zht) : (s.setZht x).evc = s.evc := rfl
@[simp] theorem State.setZht_alr (x : Zht) : (s.setZht x).alr = s.alr := rfl
@[simp] theorem State.setZht_pending (x : Zht) : (s.setZht x).pending = s.pending := rfl

/-! ### `State.setGsu` -/

@[simp] theorem State.setGsu_now (x : Gsu) : (s.setGsu x).now = s.now := rfl
@[simp] theorem State.setGsu_resetLine (x : Gsu) : (s.setGsu x).resetLine = s.resetLine := rfl
@[simp] theorem State.setGsu_haltInput (x : Gsu) : (s.setGsu x).haltInput = s.haltInput := rfl
@[simp] theorem State.setGsu_pins (x : Gsu) : (s.setGsu x).pins = s.pins := rfl
@[simp] theorem State.setGsu_strapReadings (x : Gsu) : (s.setGsu x).strapReadings = s.strapReadings := rfl
@[simp] theorem State.setGsu_cfg (x : Gsu) : (s.setGsu x).cfg = s.cfg := rfl
@[simp] theorem State.setGsu_lnk (x : Gsu) : (s.setGsu x).lnk = s.lnk := rfl
@[simp] theorem State.setGsu_ptb (x : Gsu) : (s.setGsu x).ptb = s.ptb := rfl
@[simp] theorem State.setGsu_trv (x : Gsu) : (s.setGsu x).trv = s.trv := rfl
@[simp] theorem State.setGsu_zht (x : Gsu) : (s.setGsu x).zht = s.zht := rfl
@[simp] theorem State.setGsu_gsu (x : Gsu) : (s.setGsu x).gsu = x := rfl
@[simp] theorem State.setGsu_lvc (x : Gsu) : (s.setGsu x).lvc = s.lvc := rfl
@[simp] theorem State.setGsu_fdc (x : Gsu) : (s.setGsu x).fdc = s.fdc := rfl
@[simp] theorem State.setGsu_msi (x : Gsu) : (s.setGsu x).msi = s.msi := rfl
@[simp] theorem State.setGsu_ring (x : Gsu) : (s.setGsu x).ring = s.ring := rfl
@[simp] theorem State.setGsu_rdu (x : Gsu) : (s.setGsu x).rdu = s.rdu := rfl
@[simp] theorem State.setGsu_mck (x : Gsu) : (s.setGsu x).mck = s.mck := rfl
@[simp] theorem State.setGsu_evc (x : Gsu) : (s.setGsu x).evc = s.evc := rfl
@[simp] theorem State.setGsu_alr (x : Gsu) : (s.setGsu x).alr = s.alr := rfl
@[simp] theorem State.setGsu_pending (x : Gsu) : (s.setGsu x).pending = s.pending := rfl

/-! ### `State.setLvc` -/

@[simp] theorem State.setLvc_now (x : Lvc) : (s.setLvc x).now = s.now := rfl
@[simp] theorem State.setLvc_resetLine (x : Lvc) : (s.setLvc x).resetLine = s.resetLine := rfl
@[simp] theorem State.setLvc_haltInput (x : Lvc) : (s.setLvc x).haltInput = s.haltInput := rfl
@[simp] theorem State.setLvc_pins (x : Lvc) : (s.setLvc x).pins = s.pins := rfl
@[simp] theorem State.setLvc_strapReadings (x : Lvc) : (s.setLvc x).strapReadings = s.strapReadings := rfl
@[simp] theorem State.setLvc_cfg (x : Lvc) : (s.setLvc x).cfg = s.cfg := rfl
@[simp] theorem State.setLvc_lnk (x : Lvc) : (s.setLvc x).lnk = s.lnk := rfl
@[simp] theorem State.setLvc_ptb (x : Lvc) : (s.setLvc x).ptb = s.ptb := rfl
@[simp] theorem State.setLvc_trv (x : Lvc) : (s.setLvc x).trv = s.trv := rfl
@[simp] theorem State.setLvc_zht (x : Lvc) : (s.setLvc x).zht = s.zht := rfl
@[simp] theorem State.setLvc_gsu (x : Lvc) : (s.setLvc x).gsu = s.gsu := rfl
@[simp] theorem State.setLvc_lvc (x : Lvc) : (s.setLvc x).lvc = x := rfl
@[simp] theorem State.setLvc_fdc (x : Lvc) : (s.setLvc x).fdc = s.fdc := rfl
@[simp] theorem State.setLvc_msi (x : Lvc) : (s.setLvc x).msi = s.msi := rfl
@[simp] theorem State.setLvc_ring (x : Lvc) : (s.setLvc x).ring = s.ring := rfl
@[simp] theorem State.setLvc_rdu (x : Lvc) : (s.setLvc x).rdu = s.rdu := rfl
@[simp] theorem State.setLvc_mck (x : Lvc) : (s.setLvc x).mck = s.mck := rfl
@[simp] theorem State.setLvc_evc (x : Lvc) : (s.setLvc x).evc = s.evc := rfl
@[simp] theorem State.setLvc_alr (x : Lvc) : (s.setLvc x).alr = s.alr := rfl
@[simp] theorem State.setLvc_pending (x : Lvc) : (s.setLvc x).pending = s.pending := rfl

/-! ### `State.setFdc` -/

@[simp] theorem State.setFdc_now (x : Fdc) : (s.setFdc x).now = s.now := rfl
@[simp] theorem State.setFdc_resetLine (x : Fdc) : (s.setFdc x).resetLine = s.resetLine := rfl
@[simp] theorem State.setFdc_haltInput (x : Fdc) : (s.setFdc x).haltInput = s.haltInput := rfl
@[simp] theorem State.setFdc_pins (x : Fdc) : (s.setFdc x).pins = s.pins := rfl
@[simp] theorem State.setFdc_strapReadings (x : Fdc) : (s.setFdc x).strapReadings = s.strapReadings := rfl
@[simp] theorem State.setFdc_cfg (x : Fdc) : (s.setFdc x).cfg = s.cfg := rfl
@[simp] theorem State.setFdc_lnk (x : Fdc) : (s.setFdc x).lnk = s.lnk := rfl
@[simp] theorem State.setFdc_ptb (x : Fdc) : (s.setFdc x).ptb = s.ptb := rfl
@[simp] theorem State.setFdc_trv (x : Fdc) : (s.setFdc x).trv = s.trv := rfl
@[simp] theorem State.setFdc_zht (x : Fdc) : (s.setFdc x).zht = s.zht := rfl
@[simp] theorem State.setFdc_gsu (x : Fdc) : (s.setFdc x).gsu = s.gsu := rfl
@[simp] theorem State.setFdc_lvc (x : Fdc) : (s.setFdc x).lvc = s.lvc := rfl
@[simp] theorem State.setFdc_fdc (x : Fdc) : (s.setFdc x).fdc = x := rfl
@[simp] theorem State.setFdc_msi (x : Fdc) : (s.setFdc x).msi = s.msi := rfl
@[simp] theorem State.setFdc_ring (x : Fdc) : (s.setFdc x).ring = s.ring := rfl
@[simp] theorem State.setFdc_rdu (x : Fdc) : (s.setFdc x).rdu = s.rdu := rfl
@[simp] theorem State.setFdc_mck (x : Fdc) : (s.setFdc x).mck = s.mck := rfl
@[simp] theorem State.setFdc_evc (x : Fdc) : (s.setFdc x).evc = s.evc := rfl
@[simp] theorem State.setFdc_alr (x : Fdc) : (s.setFdc x).alr = s.alr := rfl
@[simp] theorem State.setFdc_pending (x : Fdc) : (s.setFdc x).pending = s.pending := rfl

/-! ### `State.setMsi` -/

@[simp] theorem State.setMsi_now (x : Msi) : (s.setMsi x).now = s.now := rfl
@[simp] theorem State.setMsi_resetLine (x : Msi) : (s.setMsi x).resetLine = s.resetLine := rfl
@[simp] theorem State.setMsi_haltInput (x : Msi) : (s.setMsi x).haltInput = s.haltInput := rfl
@[simp] theorem State.setMsi_pins (x : Msi) : (s.setMsi x).pins = s.pins := rfl
@[simp] theorem State.setMsi_strapReadings (x : Msi) : (s.setMsi x).strapReadings = s.strapReadings := rfl
@[simp] theorem State.setMsi_cfg (x : Msi) : (s.setMsi x).cfg = s.cfg := rfl
@[simp] theorem State.setMsi_lnk (x : Msi) : (s.setMsi x).lnk = s.lnk := rfl
@[simp] theorem State.setMsi_ptb (x : Msi) : (s.setMsi x).ptb = s.ptb := rfl
@[simp] theorem State.setMsi_trv (x : Msi) : (s.setMsi x).trv = s.trv := rfl
@[simp] theorem State.setMsi_zht (x : Msi) : (s.setMsi x).zht = s.zht := rfl
@[simp] theorem State.setMsi_gsu (x : Msi) : (s.setMsi x).gsu = s.gsu := rfl
@[simp] theorem State.setMsi_lvc (x : Msi) : (s.setMsi x).lvc = s.lvc := rfl
@[simp] theorem State.setMsi_fdc (x : Msi) : (s.setMsi x).fdc = s.fdc := rfl
@[simp] theorem State.setMsi_msi (x : Msi) : (s.setMsi x).msi = x := rfl
@[simp] theorem State.setMsi_ring (x : Msi) : (s.setMsi x).ring = s.ring := rfl
@[simp] theorem State.setMsi_rdu (x : Msi) : (s.setMsi x).rdu = s.rdu := rfl
@[simp] theorem State.setMsi_mck (x : Msi) : (s.setMsi x).mck = s.mck := rfl
@[simp] theorem State.setMsi_evc (x : Msi) : (s.setMsi x).evc = s.evc := rfl
@[simp] theorem State.setMsi_alr (x : Msi) : (s.setMsi x).alr = s.alr := rfl
@[simp] theorem State.setMsi_pending (x : Msi) : (s.setMsi x).pending = s.pending := rfl

/-! ### `State.setRing` -/

@[simp] theorem State.setRing_now (x : Ring) : (s.setRing x).now = s.now := rfl
@[simp] theorem State.setRing_resetLine (x : Ring) : (s.setRing x).resetLine = s.resetLine := rfl
@[simp] theorem State.setRing_haltInput (x : Ring) : (s.setRing x).haltInput = s.haltInput := rfl
@[simp] theorem State.setRing_pins (x : Ring) : (s.setRing x).pins = s.pins := rfl
@[simp] theorem State.setRing_strapReadings (x : Ring) : (s.setRing x).strapReadings = s.strapReadings := rfl
@[simp] theorem State.setRing_cfg (x : Ring) : (s.setRing x).cfg = s.cfg := rfl
@[simp] theorem State.setRing_lnk (x : Ring) : (s.setRing x).lnk = s.lnk := rfl
@[simp] theorem State.setRing_ptb (x : Ring) : (s.setRing x).ptb = s.ptb := rfl
@[simp] theorem State.setRing_trv (x : Ring) : (s.setRing x).trv = s.trv := rfl
@[simp] theorem State.setRing_zht (x : Ring) : (s.setRing x).zht = s.zht := rfl
@[simp] theorem State.setRing_gsu (x : Ring) : (s.setRing x).gsu = s.gsu := rfl
@[simp] theorem State.setRing_lvc (x : Ring) : (s.setRing x).lvc = s.lvc := rfl
@[simp] theorem State.setRing_fdc (x : Ring) : (s.setRing x).fdc = s.fdc := rfl
@[simp] theorem State.setRing_msi (x : Ring) : (s.setRing x).msi = s.msi := rfl
@[simp] theorem State.setRing_ring (x : Ring) : (s.setRing x).ring = x := rfl
@[simp] theorem State.setRing_rdu (x : Ring) : (s.setRing x).rdu = s.rdu := rfl
@[simp] theorem State.setRing_mck (x : Ring) : (s.setRing x).mck = s.mck := rfl
@[simp] theorem State.setRing_evc (x : Ring) : (s.setRing x).evc = s.evc := rfl
@[simp] theorem State.setRing_alr (x : Ring) : (s.setRing x).alr = s.alr := rfl
@[simp] theorem State.setRing_pending (x : Ring) : (s.setRing x).pending = s.pending := rfl

/-! ### `State.setRdu` -/

@[simp] theorem State.setRdu_now (x : Rdu) : (s.setRdu x).now = s.now := rfl
@[simp] theorem State.setRdu_resetLine (x : Rdu) : (s.setRdu x).resetLine = s.resetLine := rfl
@[simp] theorem State.setRdu_haltInput (x : Rdu) : (s.setRdu x).haltInput = s.haltInput := rfl
@[simp] theorem State.setRdu_pins (x : Rdu) : (s.setRdu x).pins = s.pins := rfl
@[simp] theorem State.setRdu_strapReadings (x : Rdu) : (s.setRdu x).strapReadings = s.strapReadings := rfl
@[simp] theorem State.setRdu_cfg (x : Rdu) : (s.setRdu x).cfg = s.cfg := rfl
@[simp] theorem State.setRdu_lnk (x : Rdu) : (s.setRdu x).lnk = s.lnk := rfl
@[simp] theorem State.setRdu_ptb (x : Rdu) : (s.setRdu x).ptb = s.ptb := rfl
@[simp] theorem State.setRdu_trv (x : Rdu) : (s.setRdu x).trv = s.trv := rfl
@[simp] theorem State.setRdu_zht (x : Rdu) : (s.setRdu x).zht = s.zht := rfl
@[simp] theorem State.setRdu_gsu (x : Rdu) : (s.setRdu x).gsu = s.gsu := rfl
@[simp] theorem State.setRdu_lvc (x : Rdu) : (s.setRdu x).lvc = s.lvc := rfl
@[simp] theorem State.setRdu_fdc (x : Rdu) : (s.setRdu x).fdc = s.fdc := rfl
@[simp] theorem State.setRdu_msi (x : Rdu) : (s.setRdu x).msi = s.msi := rfl
@[simp] theorem State.setRdu_ring (x : Rdu) : (s.setRdu x).ring = s.ring := rfl
@[simp] theorem State.setRdu_rdu (x : Rdu) : (s.setRdu x).rdu = x := rfl
@[simp] theorem State.setRdu_mck (x : Rdu) : (s.setRdu x).mck = s.mck := rfl
@[simp] theorem State.setRdu_evc (x : Rdu) : (s.setRdu x).evc = s.evc := rfl
@[simp] theorem State.setRdu_alr (x : Rdu) : (s.setRdu x).alr = s.alr := rfl
@[simp] theorem State.setRdu_pending (x : Rdu) : (s.setRdu x).pending = s.pending := rfl

/-! ### `State.setMck` -/

@[simp] theorem State.setMck_now (x : Mck) : (s.setMck x).now = s.now := rfl
@[simp] theorem State.setMck_resetLine (x : Mck) : (s.setMck x).resetLine = s.resetLine := rfl
@[simp] theorem State.setMck_haltInput (x : Mck) : (s.setMck x).haltInput = s.haltInput := rfl
@[simp] theorem State.setMck_pins (x : Mck) : (s.setMck x).pins = s.pins := rfl
@[simp] theorem State.setMck_strapReadings (x : Mck) : (s.setMck x).strapReadings = s.strapReadings := rfl
@[simp] theorem State.setMck_cfg (x : Mck) : (s.setMck x).cfg = s.cfg := rfl
@[simp] theorem State.setMck_lnk (x : Mck) : (s.setMck x).lnk = s.lnk := rfl
@[simp] theorem State.setMck_ptb (x : Mck) : (s.setMck x).ptb = s.ptb := rfl
@[simp] theorem State.setMck_trv (x : Mck) : (s.setMck x).trv = s.trv := rfl
@[simp] theorem State.setMck_zht (x : Mck) : (s.setMck x).zht = s.zht := rfl
@[simp] theorem State.setMck_gsu (x : Mck) : (s.setMck x).gsu = s.gsu := rfl
@[simp] theorem State.setMck_lvc (x : Mck) : (s.setMck x).lvc = s.lvc := rfl
@[simp] theorem State.setMck_fdc (x : Mck) : (s.setMck x).fdc = s.fdc := rfl
@[simp] theorem State.setMck_msi (x : Mck) : (s.setMck x).msi = s.msi := rfl
@[simp] theorem State.setMck_ring (x : Mck) : (s.setMck x).ring = s.ring := rfl
@[simp] theorem State.setMck_rdu (x : Mck) : (s.setMck x).rdu = s.rdu := rfl
@[simp] theorem State.setMck_mck (x : Mck) : (s.setMck x).mck = x := rfl
@[simp] theorem State.setMck_evc (x : Mck) : (s.setMck x).evc = s.evc := rfl
@[simp] theorem State.setMck_alr (x : Mck) : (s.setMck x).alr = s.alr := rfl
@[simp] theorem State.setMck_pending (x : Mck) : (s.setMck x).pending = s.pending := rfl

/-! ### `State.setEvc` -/

@[simp] theorem State.setEvc_now (x : Evc) : (s.setEvc x).now = s.now := rfl
@[simp] theorem State.setEvc_resetLine (x : Evc) : (s.setEvc x).resetLine = s.resetLine := rfl
@[simp] theorem State.setEvc_haltInput (x : Evc) : (s.setEvc x).haltInput = s.haltInput := rfl
@[simp] theorem State.setEvc_pins (x : Evc) : (s.setEvc x).pins = s.pins := rfl
@[simp] theorem State.setEvc_strapReadings (x : Evc) : (s.setEvc x).strapReadings = s.strapReadings := rfl
@[simp] theorem State.setEvc_cfg (x : Evc) : (s.setEvc x).cfg = s.cfg := rfl
@[simp] theorem State.setEvc_lnk (x : Evc) : (s.setEvc x).lnk = s.lnk := rfl
@[simp] theorem State.setEvc_ptb (x : Evc) : (s.setEvc x).ptb = s.ptb := rfl
@[simp] theorem State.setEvc_trv (x : Evc) : (s.setEvc x).trv = s.trv := rfl
@[simp] theorem State.setEvc_zht (x : Evc) : (s.setEvc x).zht = s.zht := rfl
@[simp] theorem State.setEvc_gsu (x : Evc) : (s.setEvc x).gsu = s.gsu := rfl
@[simp] theorem State.setEvc_lvc (x : Evc) : (s.setEvc x).lvc = s.lvc := rfl
@[simp] theorem State.setEvc_fdc (x : Evc) : (s.setEvc x).fdc = s.fdc := rfl
@[simp] theorem State.setEvc_msi (x : Evc) : (s.setEvc x).msi = s.msi := rfl
@[simp] theorem State.setEvc_ring (x : Evc) : (s.setEvc x).ring = s.ring := rfl
@[simp] theorem State.setEvc_rdu (x : Evc) : (s.setEvc x).rdu = s.rdu := rfl
@[simp] theorem State.setEvc_mck (x : Evc) : (s.setEvc x).mck = s.mck := rfl
@[simp] theorem State.setEvc_evc (x : Evc) : (s.setEvc x).evc = x := rfl
@[simp] theorem State.setEvc_alr (x : Evc) : (s.setEvc x).alr = s.alr := rfl
@[simp] theorem State.setEvc_pending (x : Evc) : (s.setEvc x).pending = s.pending := rfl

/-! ### `State.setAlr` -/

@[simp] theorem State.setAlr_now (x : Alr) : (s.setAlr x).now = s.now := rfl
@[simp] theorem State.setAlr_resetLine (x : Alr) : (s.setAlr x).resetLine = s.resetLine := rfl
@[simp] theorem State.setAlr_haltInput (x : Alr) : (s.setAlr x).haltInput = s.haltInput := rfl
@[simp] theorem State.setAlr_pins (x : Alr) : (s.setAlr x).pins = s.pins := rfl
@[simp] theorem State.setAlr_strapReadings (x : Alr) : (s.setAlr x).strapReadings = s.strapReadings := rfl
@[simp] theorem State.setAlr_cfg (x : Alr) : (s.setAlr x).cfg = s.cfg := rfl
@[simp] theorem State.setAlr_lnk (x : Alr) : (s.setAlr x).lnk = s.lnk := rfl
@[simp] theorem State.setAlr_ptb (x : Alr) : (s.setAlr x).ptb = s.ptb := rfl
@[simp] theorem State.setAlr_trv (x : Alr) : (s.setAlr x).trv = s.trv := rfl
@[simp] theorem State.setAlr_zht (x : Alr) : (s.setAlr x).zht = s.zht := rfl
@[simp] theorem State.setAlr_gsu (x : Alr) : (s.setAlr x).gsu = s.gsu := rfl
@[simp] theorem State.setAlr_lvc (x : Alr) : (s.setAlr x).lvc = s.lvc := rfl
@[simp] theorem State.setAlr_fdc (x : Alr) : (s.setAlr x).fdc = s.fdc := rfl
@[simp] theorem State.setAlr_msi (x : Alr) : (s.setAlr x).msi = s.msi := rfl
@[simp] theorem State.setAlr_ring (x : Alr) : (s.setAlr x).ring = s.ring := rfl
@[simp] theorem State.setAlr_rdu (x : Alr) : (s.setAlr x).rdu = s.rdu := rfl
@[simp] theorem State.setAlr_mck (x : Alr) : (s.setAlr x).mck = s.mck := rfl
@[simp] theorem State.setAlr_evc (x : Alr) : (s.setAlr x).evc = s.evc := rfl
@[simp] theorem State.setAlr_alr (x : Alr) : (s.setAlr x).alr = x := rfl
@[simp] theorem State.setAlr_pending (x : Alr) : (s.setAlr x).pending = s.pending := rfl

/-! ### `State.setPending` -/

@[simp] theorem State.setPending_now (x : List Instr) : (s.setPending x).now = s.now := rfl
@[simp] theorem State.setPending_resetLine (x : List Instr) : (s.setPending x).resetLine = s.resetLine := rfl
@[simp] theorem State.setPending_haltInput (x : List Instr) : (s.setPending x).haltInput = s.haltInput := rfl
@[simp] theorem State.setPending_pins (x : List Instr) : (s.setPending x).pins = s.pins := rfl
@[simp] theorem State.setPending_strapReadings (x : List Instr) : (s.setPending x).strapReadings = s.strapReadings := rfl
@[simp] theorem State.setPending_cfg (x : List Instr) : (s.setPending x).cfg = s.cfg := rfl
@[simp] theorem State.setPending_lnk (x : List Instr) : (s.setPending x).lnk = s.lnk := rfl
@[simp] theorem State.setPending_ptb (x : List Instr) : (s.setPending x).ptb = s.ptb := rfl
@[simp] theorem State.setPending_trv (x : List Instr) : (s.setPending x).trv = s.trv := rfl
@[simp] theorem State.setPending_zht (x : List Instr) : (s.setPending x).zht = s.zht := rfl
@[simp] theorem State.setPending_gsu (x : List Instr) : (s.setPending x).gsu = s.gsu := rfl
@[simp] theorem State.setPending_lvc (x : List Instr) : (s.setPending x).lvc = s.lvc := rfl
@[simp] theorem State.setPending_fdc (x : List Instr) : (s.setPending x).fdc = s.fdc := rfl
@[simp] theorem State.setPending_msi (x : List Instr) : (s.setPending x).msi = s.msi := rfl
@[simp] theorem State.setPending_ring (x : List Instr) : (s.setPending x).ring = s.ring := rfl
@[simp] theorem State.setPending_rdu (x : List Instr) : (s.setPending x).rdu = s.rdu := rfl
@[simp] theorem State.setPending_mck (x : List Instr) : (s.setPending x).mck = s.mck := rfl
@[simp] theorem State.setPending_evc (x : List Instr) : (s.setPending x).evc = s.evc := rfl
@[simp] theorem State.setPending_alr (x : List Instr) : (s.setPending x).alr = s.alr := rfl
@[simp] theorem State.setPending_pending (x : List Instr) : (s.setPending x).pending = x := rfl

end Sys2Proof.Machine
end

