-- ==== Sys2Proof/Laws/Frames.lean ====
section
/-! SUPPORT. The frame of every shared operation: which parts of the state it can change. A prover cites these where a
command leaves a part as it was, and unfolds no operation for it. -/

set_option Elab.async false

namespace Sys2Proof.Safety

open Sys2Proof.Machine

/-! ### Putting frames together -/

theorem Part.same_refl (p : Part) (s : State) : p.same s s := by cases p <;> rfl

theorem Part.same_trans (p : Part) (s t u : State) (h : p.same s t) (k : p.same t u) : p.same s u := by
  cases p <;> exact Eq.trans k h

theorem KeepsAllBut.refl (l : List Part) (s : State) : KeepsAllBut l s s := fun p _ => p.same_refl s

theorem KeepsAllBut.trans {l : List Part} {s t u : State} (h : KeepsAllBut l s t) (k : KeepsAllBut l t u) :
    KeepsAllBut l s u := fun p hp => p.same_trans s t u (h p hp) (k p hp)

theorem KeepsAllBut.mono {l m : List Part} {s t : State} (h : KeepsAllBut l s t) (sub : ∀ p ∈ l, p ∈ m) : KeepsAllBut m s t :=
  fun p hp => h p (fun hl => hp (sub p hl))

/-- The last of several operations is taken off: what it changes is among the parts listed. -/
theorem KeepsAllBut.after {l m : List Part} {s t u : State} (k : KeepsAllBut l t u) (sub : ∀ p ∈ l, p ∈ m)
    (h : KeepsAllBut m s t) : KeepsAllBut m s u := h.trans (k.mono sub)

theorem KeepsAllBut.now {l : List Part} {s t : State} (h : KeepsAllBut l s t) (n : .now ∉ l := by decide) :
    t.now = s.now := h .now n

theorem KeepsAllBut.resetLine {l : List Part} {s t : State} (h : KeepsAllBut l s t) (n : .resetLine ∉ l := by decide) :
    t.resetLine = s.resetLine := h .resetLine n

theorem KeepsAllBut.haltInput {l : List Part} {s t : State} (h : KeepsAllBut l s t) (n : .haltInput ∉ l := by decide) :
    t.haltInput = s.haltInput := h .haltInput n

theorem KeepsAllBut.pins {l : List Part} {s t : State} (h : KeepsAllBut l s t) (n : .pins ∉ l := by decide) :
    t.pins = s.pins := h .pins n

theorem KeepsAllBut.strapReadings {l : List Part} {s t : State} (h : KeepsAllBut l s t) (n : .strapReadings ∉ l := by decide) :
    t.strapReadings = s.strapReadings := h .strapReadings n

theorem KeepsAllBut.cfg {l : List Part} {s t : State} (h : KeepsAllBut l s t) (n : .cfg ∉ l := by decide) :
    t.cfg = s.cfg := h .cfg n

theorem KeepsAllBut.lnk {l : List Part} {s t : State} (h : KeepsAllBut l s t) (n : .lnk ∉ l := by decide) :
    t.lnk = s.lnk := h .lnk n

theorem KeepsAllBut.ptb {l : List Part} {s t : State} (h : KeepsAllBut l s t) (n : .ptb ∉ l := by decide) :
    t.ptb = s.ptb := h .ptb n

theorem KeepsAllBut.trv {l : List Part} {s t : State} (h : KeepsAllBut l s t) (n : .trv ∉ l := by decide) :
    t.trv = s.trv := h .trv n

theorem KeepsAllBut.zht {l : List Part} {s t : State} (h : KeepsAllBut l s t) (n : .zht ∉ l := by decide) :
    t.zht = s.zht := h .zht n

theorem KeepsAllBut.gsu {l : List Part} {s t : State} (h : KeepsAllBut l s t) (n : .gsu ∉ l := by decide) :
    t.gsu = s.gsu := h .gsu n

theorem KeepsAllBut.lvc {l : List Part} {s t : State} (h : KeepsAllBut l s t) (n : .lvc ∉ l := by decide) :
    t.lvc = s.lvc := h .lvc n

theorem KeepsAllBut.fdc {l : List Part} {s t : State} (h : KeepsAllBut l s t) (n : .fdc ∉ l := by decide) :
    t.fdc = s.fdc := h .fdc n

theorem KeepsAllBut.msi {l : List Part} {s t : State} (h : KeepsAllBut l s t) (n : .msi ∉ l := by decide) :
    t.msi = s.msi := h .msi n

theorem KeepsAllBut.ring {l : List Part} {s t : State} (h : KeepsAllBut l s t) (n : .ring ∉ l := by decide) :
    t.ring = s.ring := h .ring n

theorem KeepsAllBut.rdu {l : List Part} {s t : State} (h : KeepsAllBut l s t) (n : .rdu ∉ l := by decide) :
    t.rdu = s.rdu := h .rdu n

theorem KeepsAllBut.mck {l : List Part} {s t : State} (h : KeepsAllBut l s t) (n : .mck ∉ l := by decide) :
    t.mck = s.mck := h .mck n

theorem KeepsAllBut.evc {l : List Part} {s t : State} (h : KeepsAllBut l s t) (n : .evc ∉ l := by decide) :
    t.evc = s.evc := h .evc n

theorem KeepsAllBut.alr {l : List Part} {s t : State} (h : KeepsAllBut l s t) (n : .alr ∉ l := by decide) :
    t.alr = s.alr := h .alr n

theorem KeepsAllBut.pending {l : List Part} {s t : State} (h : KeepsAllBut l s t) (n : .pending ∉ l := by decide) :
    t.pending = s.pending := h .pending n

/-! ### The updates -/

theorem keeps_setNow (s : State) (x : Time) : KeepsAllBut [.now] s (s.setNow x) := by
  intro p hp; cases p <;> first | rfl | exact absurd (by decide +kernel) hp

theorem keeps_setResetLine (s : State) (x : Bool) : KeepsAllBut [.resetLine] s (s.setResetLine x) := by
  intro p hp; cases p <;> first | rfl | exact absurd (by decide +kernel) hp

theorem keeps_setHaltInput (s : State) (x : Bool) : KeepsAllBut [.haltInput] s (s.setHaltInput x) := by
  intro p hp; cases p <;> first | rfl | exact absurd (by decide +kernel) hp

theorem keeps_setPins (s : State) (x : StrapPins) : KeepsAllBut [.pins] s (s.setPins x) := by
  intro p hp; cases p <;> first | rfl | exact absurd (by decide +kernel) hp

theorem keeps_setStrapReadings (s : State) (x : Nat) : KeepsAllBut [.strapReadings] s (s.setStrapReadings x) := by
  intro p hp; cases p <;> first | rfl | exact absurd (by decide +kernel) hp

theorem keeps_setCfg (s : State) (x : Cfg) : KeepsAllBut [.cfg] s (s.setCfg x) := by
  intro p hp; cases p <;> first | rfl | exact absurd (by decide +kernel) hp

theorem keeps_setLnk (s : State) (x : Lnk) : KeepsAllBut [.lnk] s (s.setLnk x) := by
  intro p hp; cases p <;> first | rfl | exact absurd (by decide +kernel) hp

theorem keeps_setPtb (s : State) (x : Ptb) : KeepsAllBut [.ptb] s (s.setPtb x) := by
  intro p hp; cases p <;> first | rfl | exact absurd (by decide +kernel) hp

theorem keeps_setTrv (s : State) (x : Trv) : KeepsAllBut [.trv] s (s.setTrv x) := by
  intro p hp; cases p <;> first | rfl | exact absurd (by decide +kernel) hp

theorem keeps_setZht (s : State) (x : Zht) : KeepsAllBut [.zht] s (s.setZht x) := by
  intro p hp; cases p <;> first | rfl | exact absurd (by decide +kernel) hp

theorem keeps_setGsu (s : State) (x : Gsu) : KeepsAllBut [.gsu] s (s.setGsu x) := by
  intro p hp; cases p <;> first | rfl | exact absurd (by decide +kernel) hp

theorem keeps_setLvc (s : State) (x : Lvc) : KeepsAllBut [.lvc] s (s.setLvc x) := by
  intro p hp; cases p <;> first | rfl | exact absurd (by decide +kernel) hp

theorem keeps_setFdc (s : State) (x : Fdc) : KeepsAllBut [.fdc] s (s.setFdc x) := by
  intro p hp; cases p <;> first | rfl | exact absurd (by decide +kernel) hp

theorem keeps_setMsi (s : State) (x : Msi) : KeepsAllBut [.msi] s (s.setMsi x) := by
  intro p hp; cases p <;> first | rfl | exact absurd (by decide +kernel) hp

theorem keeps_setRing (s : State) (x : Ring) : KeepsAllBut [.ring] s (s.setRing x) := by
  intro p hp; cases p <;> first | rfl | exact absurd (by decide +kernel) hp

theorem keeps_setRdu (s : State) (x : Rdu) : KeepsAllBut [.rdu] s (s.setRdu x) := by
  intro p hp; cases p <;> first | rfl | exact absurd (by decide +kernel) hp

theorem keeps_setMck (s : State) (x : Mck) : KeepsAllBut [.mck] s (s.setMck x) := by
  intro p hp; cases p <;> first | rfl | exact absurd (by decide +kernel) hp

theorem keeps_setEvc (s : State) (x : Evc) : KeepsAllBut [.evc] s (s.setEvc x) := by
  intro p hp; cases p <;> first | rfl | exact absurd (by decide +kernel) hp

theorem keeps_setAlr (s : State) (x : Alr) : KeepsAllBut [.alr] s (s.setAlr x) := by
  intro p hp; cases p <;> first | rfl | exact absurd (by decide +kernel) hp

theorem keeps_setPending (s : State) (x : List Instr) : KeepsAllBut [.pending] s (s.setPending x) := by
  intro p hp; cases p <;> first | rfl | exact absurd (by decide +kernel) hp

/-! ### Ops -/

theorem reach_keeps (due : Time) (s : State) :
    KeepsAllBut [.now] s (reach due s) := by
  unfold reach; try dsimp only
  repeat' first
    | with_reducible exact KeepsAllBut.refl _ _
    | with_reducible apply KeepsAllBut.after (keeps_setNow _ _)
    | split
    | decide +kernel

theorem beginFrame_keeps (s : State) :
    KeepsAllBut [.lnk] s (beginFrame s) := by
  unfold beginFrame; try dsimp only
  repeat' first
    | with_reducible exact KeepsAllBut.refl _ _
    | with_reducible apply KeepsAllBut.after (keeps_setLnk _ _)
    | split
    | decide +kernel

theorem fillU_keeps (s : State) :
    KeepsAllBut [.lnk] s (fillU s) := by
  unfold fillU; try dsimp only
  repeat' first
    | with_reducible exact KeepsAllBut.refl _ _
    | with_reducible apply KeepsAllBut.after (keeps_setLnk _ _)
    | split
    | decide +kernel

theorem fillP_keeps (s : State) :
    KeepsAllBut [.lnk] s (fillP s) := by
  unfold fillP; try dsimp only
  repeat' first
    | with_reducible exact KeepsAllBut.refl _ _
    | with_reducible apply KeepsAllBut.after (keeps_setLnk _ _)
    | split
    | decide +kernel

theorem pushU_keeps (f : Frame) (s : State) :
    KeepsAllBut [.lnk] s (pushU f s) := by
  unfold pushU; try dsimp only
  repeat' first
    | with_reducible exact KeepsAllBut.refl _ _
    | with_reducible apply KeepsAllBut.after (beginFrame_keeps _)
    | with_reducible apply KeepsAllBut.after (fillU_keeps _)
    | with_reducible apply KeepsAllBut.after (keeps_setLnk _ _)
    | split
    | decide +kernel

theorem pushP_keeps (body : Body) (s : State) :
    KeepsAllBut [.lnk] s (pushP body s) := by
  unfold pushP; try dsimp only
  repeat' first
    | with_reducible exact KeepsAllBut.refl _ _
    | with_reducible apply KeepsAllBut.after (beginFrame_keeps _)
    | with_reducible apply KeepsAllBut.after (fillP_keeps _)
    | with_reducible apply KeepsAllBut.after (keeps_setLnk _ _)
    | split
    | decide +kernel

theorem queueAlert_keeps (a : AlertSource) (s : State) :
    KeepsAllBut [.lnk] s (queueAlert a s) := by
  unfold queueAlert; try dsimp only
  repeat' first
    | with_reducible exact KeepsAllBut.refl _ _
    | with_reducible apply KeepsAllBut.after (pushU_keeps _ _)
    | split
    | decide +kernel

theorem raise_keeps (a : AlertSource) (s : State) :
    KeepsAllBut [.lnk, .alr] s (raise a s) := by
  unfold raise; try dsimp only
  repeat' first
    | with_reducible exact KeepsAllBut.refl _ _
    | with_reducible apply KeepsAllBut.after (keeps_setAlr _ _)
    | with_reducible apply KeepsAllBut.after (queueAlert_keeps _ _)
    | split
    | decide +kernel

theorem lower_keeps (a : AlertSource) (s : State) :
    KeepsAllBut [.alr] s (lower a s) := by
  unfold lower; try dsimp only
  repeat' first
    | with_reducible exact KeepsAllBut.refl _ _
    | with_reducible apply KeepsAllBut.after (keeps_setAlr _ _)
    | split
    | decide +kernel

theorem follow_keeps (a : AlertSource) (present : Bool) (s : State) :
    KeepsAllBut [.lnk, .alr] s (follow a present s) := by
  unfold follow; try dsimp only
  repeat' first
    | with_reducible exact KeepsAllBut.refl _ _
    | with_reducible apply KeepsAllBut.after (lower_keeps _ _)
    | with_reducible apply KeepsAllBut.after (raise_keeps _ _)
    | split
    | decide +kernel

theorem countBy_keeps (e : Event) (item amount : Nat) (s : State) :
    KeepsAllBut [.lnk, .evc, .alr] s (countBy e item amount s) := by
  unfold countBy; try dsimp only
  repeat' first
    | with_reducible exact KeepsAllBut.refl _ _
    | with_reducible apply KeepsAllBut.after (keeps_setEvc _ _)
    | with_reducible apply KeepsAllBut.after (raise_keeps _ _)
    | split
    | decide +kernel

theorem count_keeps (e : Event) (item : Nat) (s : State) :
    KeepsAllBut [.lnk, .evc, .alr] s (count e item s) := by
  unfold count; try dsimp only
  repeat' first
    | with_reducible exact KeepsAllBut.refl _ _
    | with_reducible apply KeepsAllBut.after (countBy_keeps _ _ _ _)
    | split
    | decide +kernel

theorem raiseFlag_keeps (f : IntervalFlag) (s : State) :
    KeepsAllBut [.msi] s (raiseFlag f s) := by
  unfold raiseFlag; try dsimp only
  repeat' first
    | with_reducible exact KeepsAllBut.refl _ _
    | with_reducible apply KeepsAllBut.after (keeps_setMsi _ _)
    | split
    | decide +kernel

theorem unlessHeld_keeps {l : List Part} (f : State → State) (s : State) (h : ∀ s, KeepsAllBut l s (f s)) :
    KeepsAllBut l s (unlessHeld f s) := by
  unfold unlessHeld; split
  · exact KeepsAllBut.refl l s
  · exact h s

/-! ### PeerTable -/

theorem setEntry_keeps (a : Addr) (e : Entry) (s : State) :
    KeepsAllBut [.ptb] s (setEntry a e s) := by
  unfold setEntry; try dsimp only
  repeat' first
    | with_reducible exact KeepsAllBut.refl _ _
    | with_reducible apply KeepsAllBut.after (keeps_setPtb _ _)
    | split
    | decide +kernel

theorem hear_keeps (a : Addr) (s : State) :
    KeepsAllBut [.ptb] s (hear a s) := by
  unfold hear; try dsimp only
  repeat' first
    | with_reducible exact KeepsAllBut.refl _ _
    | with_reducible apply KeepsAllBut.after (setEntry_keeps _ _ _)
    | split
    | decide +kernel

theorem writeDemand_keeps (a : Addr) (d : Demand) (s : State) :
    KeepsAllBut [.ptb] s (writeDemand a d s) := by
  unfold writeDemand; try dsimp only
  repeat' first
    | with_reducible exact KeepsAllBut.refl _ _
    | with_reducible apply KeepsAllBut.after (setEntry_keeps _ _ _)
    | split
    | decide +kernel

theorem writeClaim_keeps (a : Addr) (c : Claim) (s : State) :
    KeepsAllBut [.ptb] s (writeClaim a c s) := by
  unfold writeClaim; try dsimp only
  repeat' first
    | with_reducible exact KeepsAllBut.refl _ _
    | with_reducible apply KeepsAllBut.after (setEntry_keeps _ _ _)
    | split
    | decide +kernel

theorem writeLevel_keeps (a : Addr) (l : LevelStatus) (s : State) :
    KeepsAllBut [.ptb] s (writeLevel a l s) := by
  unfold writeLevel; try dsimp only
  repeat' first
    | with_reducible exact KeepsAllBut.refl _ _
    | with_reducible apply KeepsAllBut.after (setEntry_keeps _ _ _)
    | split
    | decide +kernel

theorem writeFeed_keeps (a : Addr) (f : FeedPart) (s : State) :
    KeepsAllBut [.ptb] s (writeFeed a f s) := by
  unfold writeFeed; try dsimp only
  repeat' first
    | with_reducible exact KeepsAllBut.refl _ _
    | with_reducible apply KeepsAllBut.after (setEntry_keeps _ _ _)
    | split
    | decide +kernel

theorem writeTravel_keeps (a : Addr) (t : Travel) (s : State) :
    KeepsAllBut [.ptb] s (writeTravel a t s) := by
  unfold writeTravel; try dsimp only
  repeat' first
    | with_reducible exact KeepsAllBut.refl _ _
    | with_reducible apply KeepsAllBut.after (setEntry_keeps _ _ _)
    | split
    | decide +kernel

theorem checkFailure_keeps (s : State) :
    KeepsAllBut [.lnk, .evc, .alr] s (checkFailure s) := by
  unfold checkFailure; try dsimp only
  repeat' first
    | with_reducible exact KeepsAllBut.refl _ _
    | with_reducible apply KeepsAllBut.after (count_keeps _ _ _)
    | split
    | decide +kernel

theorem ownAddressFrame_keeps (s : State) :
    KeepsAllBut [.lnk, .evc, .alr] s (ownAddressFrame s) := by
  unfold ownAddressFrame; try dsimp only
  repeat' first
    | with_reducible exact KeepsAllBut.refl _ _
    | with_reducible apply KeepsAllBut.after (count_keeps _ _ _)
    | with_reducible apply KeepsAllBut.after (raise_keeps _ _)
    | split
    | decide +kernel

theorem lineBusy_keeps (s : State) :
    KeepsAllBut [.lnk] s (lineBusy s) := by
  unfold lineBusy; try dsimp only
  repeat' first
    | with_reducible exact KeepsAllBut.refl _ _
    | with_reducible apply KeepsAllBut.after (keeps_setLnk _ _)
    | split
    | decide +kernel

/-! ### Generator -/

theorem setZone_keeps (z : ZoneId) (x : Zone) (s : State) :
    KeepsAllBut [.zht] s (setZone z x s) := by
  unfold setZone; try dsimp only
  repeat' first
    | with_reducible exact KeepsAllBut.refl _ _
    | with_reducible apply KeepsAllBut.after (keeps_setZht _ _)
    | split
    | decide +kernel

theorem recomputeNeed_keeps (s : State) :
    KeepsAllBut [.gsu] s (recomputeNeed s) := by
  unfold recomputeNeed; try dsimp only
  repeat' first
    | with_reducible exact KeepsAllBut.refl _ _
    | with_reducible apply KeepsAllBut.after (keeps_setGsu _ _)
    | split
    | decide +kernel

theorem queueDemand_keeps (s : State) :
    KeepsAllBut [.lnk, .gsu] s (queueDemand s) := by
  unfold queueDemand; try dsimp only
  repeat' first
    | with_reducible exact KeepsAllBut.refl _ _
    | with_reducible apply KeepsAllBut.after (keeps_setGsu _ _)
    | with_reducible apply KeepsAllBut.after (pushP_keeps _ _)
    | split
    | decide +kernel

theorem reportChanges_keeps (s : State) :
    KeepsAllBut [.lnk, .gsu] s (reportChanges s) := by
  unfold reportChanges; try dsimp only
  repeat' first
    | with_reducible exact KeepsAllBut.refl _ _
    | with_reducible apply KeepsAllBut.after (queueDemand_keeps _)
    | split
    | decide +kernel

theorem startBackOff_keeps (s : State) :
    KeepsAllBut [.gsu] s (startBackOff s) := by
  unfold startBackOff; try dsimp only
  repeat' first
    | with_reducible exact KeepsAllBut.refl _ _
    | with_reducible apply KeepsAllBut.after (keeps_setGsu _ _)
    | split
    | decide +kernel

theorem withdrawClaim_keeps (s : State) :
    KeepsAllBut [.lnk, .gsu, .evc, .alr] s (withdrawClaim s) := by
  unfold withdrawClaim; try dsimp only
  repeat' first
    | with_reducible exact KeepsAllBut.refl _ _
    | with_reducible apply KeepsAllBut.after (count_keeps _ _ _)
    | with_reducible apply KeepsAllBut.after (keeps_setGsu _ _)
    | with_reducible apply KeepsAllBut.after (startBackOff_keeps _)
    | split
    | decide +kernel

theorem withdrawToWant_keeps (s : State) :
    KeepsAllBut [.lnk, .zht, .gsu, .evc, .alr] s (withdrawToWant s) := by
  unfold withdrawToWant; try dsimp only
  repeat' first
    | with_reducible exact KeepsAllBut.refl _ _
    | with_reducible apply KeepsAllBut.after (setZone_keeps _ _ _)
    | with_reducible apply KeepsAllBut.after (withdrawClaim_keeps _)
    | split
    | decide +kernel

theorem abandonClaim_keeps (s : State) :
    KeepsAllBut [.gsu] s (abandonClaim s) := by
  unfold abandonClaim; try dsimp only
  repeat' first
    | with_reducible exact KeepsAllBut.refl _ _
    | with_reducible apply KeepsAllBut.after (keeps_setGsu _ _)
    | split
    | decide +kernel

theorem judgeOverload_keeps (s : State) :
    KeepsAllBut [.lnk, .alr] s (judgeOverload s) := by
  unfold judgeOverload; try dsimp only
  repeat' first
    | with_reducible exact KeepsAllBut.refl _ _
    | with_reducible apply KeepsAllBut.after (follow_keeps _ _ _)
    | split
    | decide +kernel

theorem recomputeDraw_keeps (s : State) :
    KeepsAllBut [.gsu] s (recomputeDraw s) := by
  unfold recomputeDraw; try dsimp only
  repeat' first
    | with_reducible exact KeepsAllBut.refl _ _
    | with_reducible apply KeepsAllBut.after (keeps_setGsu _ _)
    | split
    | decide +kernel

theorem shedElement_keeps (s : State) :
    KeepsAllBut [.lnk, .zht, .evc, .alr] s (shedElement s) := by
  unfold shedElement; try dsimp only
  repeat' first
    | with_reducible exact KeepsAllBut.refl _ _
    | with_reducible apply KeepsAllBut.after (count_keeps _ _ _)
    | with_reducible apply KeepsAllBut.after (setZone_keeps _ _ _)
    | split
    | decide +kernel

theorem shed_keeps (s : State) :
    KeepsAllBut [.lnk, .zht, .gsu, .msi, .evc, .alr] s (shed s) := by
  unfold shed; try dsimp only
  repeat' first
    | with_reducible exact KeepsAllBut.refl _ _
    | with_reducible apply KeepsAllBut.after (judgeOverload_keeps _)
    | with_reducible apply KeepsAllBut.after (keeps_setGsu _ _)
    | with_reducible apply KeepsAllBut.after (queueDemand_keeps _)
    | with_reducible apply KeepsAllBut.after (raiseFlag_keeps _ _)
    | with_reducible apply KeepsAllBut.after (recomputeDraw_keeps _)
    | with_reducible apply KeepsAllBut.after (shedElement_keeps _)
    | with_reducible apply KeepsAllBut.after (withdrawToWant_keeps _)
    | split
    | decide +kernel

theorem evaluateShed_keeps (s : State) :
    KeepsAllBut [.lnk, .zht, .gsu, .msi, .evc, .alr] s (evaluateShed s) := by
  unfold evaluateShed; try dsimp only
  repeat' first
    | with_reducible exact KeepsAllBut.refl _ _
    | with_reducible apply KeepsAllBut.after (shed_keeps _)
    | split
    | decide +kernel

theorem drawChanged_keeps (s : State) :
    KeepsAllBut [.lnk, .zht, .gsu, .msi, .evc, .alr] s (drawChanged s) := by
  unfold drawChanged; try dsimp only
  repeat' first
    | with_reducible exact KeepsAllBut.refl _ _
    | with_reducible apply KeepsAllBut.after (evaluateShed_keeps _)
    | with_reducible apply KeepsAllBut.after (judgeOverload_keeps _)
    | with_reducible apply KeepsAllBut.after (queueDemand_keeps _)
    | with_reducible apply KeepsAllBut.after (recomputeDraw_keeps _)
    | split
    | decide +kernel

/-! ### Heating -/

theorem placeAfresh_keeps (z : ZoneId) (r : Int) (s : State) :
    KeepsAllBut [.lnk, .zht, .evc, .alr] s (placeAfresh z r s) := by
  unfold placeAfresh; try dsimp only
  repeat' first
    | with_reducible exact KeepsAllBut.refl _ _
    | with_reducible apply KeepsAllBut.after (count_keeps _ _ _)
    | with_reducible apply KeepsAllBut.after (setZone_keeps _ _ _)
    | split
    | decide +kernel

theorem withdrawIf_keeps (claiming : Bool) (s : State) :
    KeepsAllBut [.lnk, .gsu, .evc, .alr] s (withdrawIf claiming s) := by
  unfold withdrawIf; try dsimp only
  repeat' first
    | with_reducible exact KeepsAllBut.refl _ _
    | with_reducible apply KeepsAllBut.after (withdrawClaim_keeps _)
    | split
    | decide +kernel

theorem reportDrawIf_keeps (wasOn : Bool) (s : State) :
    KeepsAllBut [.lnk, .zht, .gsu, .msi, .evc, .alr] s (reportDrawIf wasOn s) := by
  unfold reportDrawIf; try dsimp only
  repeat' first
    | with_reducible exact KeepsAllBut.refl _ _
    | with_reducible apply KeepsAllBut.after (drawChanged_keeps _)
    | split
    | decide +kernel

theorem leaveFor_keeps (x : ZoneState) (reason : FaultReason) (latch : Bool) (z : ZoneId) (s : State) :
    KeepsAllBut [.lnk, .zht, .gsu, .msi, .evc, .alr] s (leaveFor x reason latch z s) := by
  unfold leaveFor; try dsimp only
  repeat' first
    | with_reducible exact KeepsAllBut.refl _ _
    | with_reducible apply KeepsAllBut.after (reportDrawIf_keeps _ _)
    | with_reducible apply KeepsAllBut.after (setZone_keeps _ _ _)
    | with_reducible apply KeepsAllBut.after (withdrawIf_keeps _ _)
    | split
    | decide +kernel

theorem enterOvertemp_keeps (z : ZoneId) (s : State) :
    KeepsAllBut [.lnk, .zht, .gsu, .msi, .evc, .alr] s (enterOvertemp z s) := by
  unfold enterOvertemp; try dsimp only
  repeat' first
    | with_reducible exact KeepsAllBut.refl _ _
    | with_reducible apply KeepsAllBut.after (count_keeps _ _ _)
    | with_reducible apply KeepsAllBut.after (leaveFor_keeps _ _ _ _ _)
    | split
    | decide +kernel

theorem checkCurrent_keeps (z : ZoneId) (current : Option Nat) (s : State) :
    KeepsAllBut [.lnk, .zht, .gsu, .msi, .evc, .alr] s (checkCurrent z current s) := by
  unfold checkCurrent; try dsimp only
  repeat' first
    | with_reducible exact KeepsAllBut.refl _ _
    | with_reducible apply KeepsAllBut.after (leaveFor_keeps _ _ _ _ _)
    | with_reducible apply KeepsAllBut.after (setZone_keeps _ _ _)
    | split
    | decide +kernel

theorem evaluateInvalid_keeps (z : ZoneId) (s : State) :
    KeepsAllBut [.lnk, .zht, .gsu, .msi, .evc, .alr] s (evaluateInvalid z s) := by
  unfold evaluateInvalid; try dsimp only
  repeat' first
    | with_reducible exact KeepsAllBut.refl _ _
    | with_reducible apply KeepsAllBut.after (leaveFor_keeps _ _ _ _ _)
    | with_reducible apply KeepsAllBut.after (setZone_keeps _ _ _)
    | split
    | decide +kernel

theorem evaluateValid_keeps (z : ZoneId) (r : Int) (current : Option Nat) (s : State) :
    KeepsAllBut [.lnk, .zht, .gsu, .msi, .evc, .alr] s (evaluateValid z r current s) := by
  unfold evaluateValid
  extract_lets z1 s1 old
  have h : KeepsAllBut [.lnk, .zht, .gsu, .msi, .evc, .alr] s s1 := (setZone_keeps z _ s).mono (by decide +kernel)
  clear_value old s1 z1
  repeat' first
    | exact h
    | with_reducible apply KeepsAllBut.after (setZone_keeps _ _ _)
    | with_reducible apply KeepsAllBut.after (placeAfresh_keeps _ _ _)
    | with_reducible apply KeepsAllBut.after (enterOvertemp_keeps _ _)
    | with_reducible apply KeepsAllBut.after (leaveFor_keeps _ _ _ _ _)
    | with_reducible apply KeepsAllBut.after (checkCurrent_keeps _ _ _)
    | split
    | decide +kernel

theorem makeClaim_keeps (z : ZoneId) (s : State) :
    KeepsAllBut [.lnk, .zht, .gsu, .evc, .alr] s (makeClaim z s) := by
  unfold makeClaim; try dsimp only
  repeat' first
    | with_reducible exact KeepsAllBut.refl _ _
    | with_reducible apply KeepsAllBut.after (count_keeps _ _ _)
    | with_reducible apply KeepsAllBut.after (keeps_setGsu _ _)
    | with_reducible apply KeepsAllBut.after (pushU_keeps _ _)
    | with_reducible apply KeepsAllBut.after (setZone_keeps _ _ _)
    | split
    | decide +kernel

theorem claimRefused_keeps (z : ZoneId) (s : State) :
    KeepsAllBut [.lnk, .gsu, .evc, .alr] s (claimRefused z s) := by
  unfold claimRefused; try dsimp only
  repeat' first
    | with_reducible exact KeepsAllBut.refl _ _
    | with_reducible apply KeepsAllBut.after (count_keeps _ _ _)
    | with_reducible apply KeepsAllBut.after (startBackOff_keeps _)
    | split
    | decide +kernel

theorem answerOffer_keeps (z : ZoneId) (s : State) :
    KeepsAllBut [.lnk, .zht, .gsu, .evc, .alr] s (answerOffer z s) := by
  unfold answerOffer; try dsimp only
  repeat' first
    | with_reducible exact KeepsAllBut.refl _ _
    | with_reducible apply KeepsAllBut.after (claimRefused_keeps _ _)
    | with_reducible apply KeepsAllBut.after (makeClaim_keeps _ _)
    | split
    | decide +kernel

theorem offer_keeps (s : State) :
    KeepsAllBut [.lnk, .zht, .gsu, .evc, .alr] s (offer s) := by
  unfold offer; try dsimp only
  repeat' first
    | with_reducible exact KeepsAllBut.refl _ _
    | with_reducible apply KeepsAllBut.after (answerOffer_keeps _ _)
    | with_reducible apply KeepsAllBut.after (keeps_setGsu _ _)
    | split
    | decide +kernel

theorem judgeReady_keeps (faulted : Bool) (s : State) :
    KeepsAllBut [.zht] s (judgeReady faulted s) := by
  unfold judgeReady; try dsimp only
  repeat' first
    | with_reducible exact KeepsAllBut.refl _ _
    | with_reducible apply KeepsAllBut.after (keeps_setZht _ _)
    | split
    | decide +kernel

theorem clearReady_keeps (s : State) :
    KeepsAllBut [.zht] s (clearReady s) := by
  unfold clearReady; try dsimp only
  repeat' first
    | with_reducible exact KeepsAllBut.refl _ _
    | with_reducible apply KeepsAllBut.after (keeps_setZht _ _)
    | split
    | decide +kernel

theorem judgeZoneFault_keeps (s : State) :
    KeepsAllBut [.lnk, .alr] s (judgeZoneFault s) := by
  unfold judgeZoneFault; try dsimp only
  repeat' first
    | with_reducible exact KeepsAllBut.refl _ _
    | with_reducible apply KeepsAllBut.after (follow_keeps _ _ _)
    | split
    | decide +kernel

theorem afterEvaluation_keeps (faulted : Bool) (s : State) :
    KeepsAllBut [.lnk, .zht, .gsu, .evc, .alr] s (afterEvaluation faulted s) := by
  unfold afterEvaluation; try dsimp only
  repeat' first
    | with_reducible exact KeepsAllBut.refl _ _
    | with_reducible apply KeepsAllBut.after (judgeReady_keeps _ _)
    | with_reducible apply KeepsAllBut.after (judgeZoneFault_keeps _)
    | with_reducible apply KeepsAllBut.after (offer_keeps _)
    | with_reducible apply KeepsAllBut.after (recomputeNeed_keeps _)
    | with_reducible apply KeepsAllBut.after (reportChanges_keeps _)
    | split
    | decide +kernel

theorem restartTimeout_keeps (z : ZoneId) (s : State) :
    KeepsAllBut [.zht] s (restartTimeout z s) := by
  unfold restartTimeout; try dsimp only
  repeat' first
    | with_reducible exact KeepsAllBut.refl _ _
    | with_reducible apply KeepsAllBut.after (setZone_keeps _ _ _)
    | split
    | decide +kernel

theorem markRejoining_keeps (left : Bool) (z : ZoneId) (s : State) :
    KeepsAllBut [.zht] s (markRejoining left z s) := by
  unfold markRejoining; try dsimp only
  repeat' first
    | with_reducible exact KeepsAllBut.refl _ _
    | with_reducible apply KeepsAllBut.after (setZone_keeps _ _ _)
    | split
    | decide +kernel

theorem evaluate_keeps (z : ZoneId) (reading : Option Int) (current : Option Nat) (s : State) :
    KeepsAllBut [.lnk, .zht, .gsu, .msi, .evc, .alr] s (evaluate z reading current s) := by
  unfold evaluate; try dsimp only
  repeat' first
    | with_reducible exact KeepsAllBut.refl _ _
    | with_reducible apply KeepsAllBut.after (afterEvaluation_keeps _ _)
    | with_reducible apply KeepsAllBut.after (evaluateInvalid_keeps _ _)
    | with_reducible apply KeepsAllBut.after (evaluateValid_keeps _ _ _ _)
    | with_reducible apply KeepsAllBut.after (markRejoining_keeps _ _ _)
    | split
    | decide +kernel

theorem setHeatMode_keeps (m : HeatMode) (s : State) :
    KeepsAllBut [.cfg, .lnk, .gsu] s (setHeatMode m s) := by
  unfold setHeatMode; try dsimp only
  repeat' first
    | with_reducible exact KeepsAllBut.refl _ _
    | with_reducible apply KeepsAllBut.after (keeps_setCfg _ _)
    | with_reducible apply KeepsAllBut.after (reportChanges_keeps _)
    | split
    | decide +kernel

theorem stopStandby_keeps (s : State) :
    KeepsAllBut [.zht] s (stopStandby s) := by
  unfold stopStandby; try dsimp only
  repeat' first
    | with_reducible exact KeepsAllBut.refl _ _
    | with_reducible apply KeepsAllBut.after (keeps_setZht _ _)
    | split
    | decide +kernel

theorem startStandby_keeps (s : State) :
    KeepsAllBut [.zht] s (startStandby s) := by
  unfold startStandby; try dsimp only
  repeat' first
    | with_reducible exact KeepsAllBut.refl _ _
    | with_reducible apply KeepsAllBut.after (keeps_setZht _ _)
    | split
    | decide +kernel

theorem heatAtTravelChange_keeps (old new : TravelState) (s : State) :
    KeepsAllBut [.cfg, .lnk, .zht, .gsu] s (heatAtTravelChange old new s) := by
  unfold heatAtTravelChange; try dsimp only
  repeat' first
    | with_reducible exact KeepsAllBut.refl _ _
    | with_reducible apply KeepsAllBut.after (setHeatMode_keeps _ _)
    | with_reducible apply KeepsAllBut.after (startStandby_keeps _)
    | with_reducible apply KeepsAllBut.after (stopStandby_keeps _)
    | split
    | decide +kernel

/-! ### Sharing -/

theorem mapZones_keeps (f : Zone → Zone) (s : State) : KeepsAllBut [.zht] s (mapZones f s) := keeps_setZht _ _

theorem reportElements_keeps (s : State) :
    KeepsAllBut [.lnk, .zht, .gsu, .msi, .evc, .alr] s (reportElements s) := by
  unfold reportElements; try dsimp only
  repeat' first
    | with_reducible exact KeepsAllBut.refl _ _
    | with_reducible apply KeepsAllBut.after (drawChanged_keeps _)
    | with_reducible apply KeepsAllBut.after (queueDemand_keeps _)
    | split
    | decide +kernel

theorem dropElements_keeps (s : State) :
    KeepsAllBut [.lnk, .zht, .gsu, .msi, .evc, .alr] s (dropElements s) := by
  unfold dropElements; try dsimp only
  repeat' first
    | with_reducible exact KeepsAllBut.refl _ _
    | with_reducible apply KeepsAllBut.after (abandonClaim_keeps _)
    | with_reducible apply KeepsAllBut.after (mapZones_keeps _ _)
    | with_reducible apply KeepsAllBut.after (reportElements_keeps _)
    | split
    | decide +kernel

theorem grantClaim_keeps (c : OwnClaim) (s : State) :
    KeepsAllBut [.lnk, .zht, .gsu, .msi, .evc, .alr] s (grantClaim c s) := by
  unfold grantClaim; try dsimp only
  repeat' first
    | with_reducible exact KeepsAllBut.refl _ _
    | with_reducible apply KeepsAllBut.after (abandonClaim_keeps _)
    | with_reducible apply KeepsAllBut.after (drawChanged_keeps _)
    | with_reducible apply KeepsAllBut.after (recomputeNeed_keeps _)
    | with_reducible apply KeepsAllBut.after (setZone_keeps _ _ _)
    | split
    | decide +kernel

theorem decideClaim_keeps (c : OwnClaim) (s : State) :
    KeepsAllBut [.lnk, .zht, .gsu, .msi, .evc, .alr] s (decideClaim c s) := by
  unfold decideClaim; try dsimp only
  repeat' first
    | with_reducible exact KeepsAllBut.refl _ _
    | with_reducible apply KeepsAllBut.after (grantClaim_keeps _ _)
    | with_reducible apply KeepsAllBut.after (reportChanges_keeps _)
    | with_reducible apply KeepsAllBut.after (withdrawToWant_keeps _)
    | split
    | decide +kernel

/-! ### RingStore -/

theorem makeRoom_keeps (s : State) :
    KeepsAllBut [.lnk, .ring, .evc, .alr] s (makeRoom s) := by
  unfold makeRoom; try dsimp only
  repeat' first
    | with_reducible exact KeepsAllBut.refl _ _
    | with_reducible apply KeepsAllBut.after (count_keeps _ _ _)
    | with_reducible apply KeepsAllBut.after (keeps_setRing _ _)
    | split
    | decide +kernel

theorem storeRecord_keeps (record : List Byte) (s : State) :
    KeepsAllBut [.ring, .mck] s (storeRecord record s) := by
  unfold storeRecord; try dsimp only
  repeat' first
    | with_reducible exact KeepsAllBut.refl _ _
    | with_reducible apply KeepsAllBut.after (keeps_setMck _ _)
    | with_reducible apply KeepsAllBut.after (keeps_setRing _ _)
    | split
    | decide +kernel

theorem ringWrite_keeps (record : List Byte) (s : State) :
    KeepsAllBut [.lnk, .ring, .rdu, .mck, .evc, .alr] s (ringWrite record s) := by
  unfold ringWrite; try dsimp only
  repeat' first
    | with_reducible exact KeepsAllBut.refl _ _
    | with_reducible apply KeepsAllBut.after (keeps_setRdu _ _)
    | with_reducible apply KeepsAllBut.after (makeRoom_keeps _)
    | with_reducible apply KeepsAllBut.after (storeRecord_keeps _ _)
    | split
    | decide +kernel

theorem judgeCheck_keeps (s : State) :
    KeepsAllBut [.lnk, .alr] s (judgeCheck s) := by
  unfold judgeCheck; try dsimp only
  repeat' first
    | with_reducible exact KeepsAllBut.refl _ _
    | with_reducible apply KeepsAllBut.after (follow_keeps _ _ _)
    | split
    | decide +kernel

theorem parityFailed_keeps (n : Fin 4) (seq : Seq) (s : State) :
    KeepsAllBut [.lnk, .mck, .evc, .alr] s (parityFailed n seq s) := by
  unfold parityFailed; try dsimp only
  repeat' first
    | with_reducible exact KeepsAllBut.refl _ _
    | with_reducible apply KeepsAllBut.after (count_keeps _ _ _)
    | with_reducible apply KeepsAllBut.after (judgeCheck_keeps _)
    | with_reducible apply KeepsAllBut.after (keeps_setMck _ _)
    | split
    | decide +kernel

/-! ### Channels -/

theorem setChannel_keeps (n : Fin 4) (c : Channel) (s : State) :
    KeepsAllBut [.rdu] s (setChannel n c s) := by
  unfold setChannel; try dsimp only
  repeat' first
    | with_reducible exact KeepsAllBut.refl _ _
    | with_reducible apply KeepsAllBut.after (keeps_setRdu _ _)
    | split
    | decide +kernel

theorem putJudged_keeps (n : Fin 4) (c : Channel) (s : State) :
    KeepsAllBut [.rdu] s (putJudged n c s) := by
  unfold putJudged; try dsimp only
  repeat' first
    | with_reducible exact KeepsAllBut.refl _ _
    | with_reducible apply KeepsAllBut.after (setChannel_keeps _ _ _)
    | split
    | decide +kernel

theorem headerStep_keeps (n : Fin 4) (s : State) :
    KeepsAllBut [.rdu] s (headerStep n s) := by
  unfold headerStep; try dsimp only
  repeat' first
    | with_reducible exact KeepsAllBut.refl _ _
    | with_reducible apply KeepsAllBut.after (putJudged_keeps _ _ _)
    | with_reducible apply KeepsAllBut.after (setChannel_keeps _ _ _)
    | split
    | decide +kernel

theorem recordStep_keeps (n : Fin 4) (s : State) :
    KeepsAllBut [.lnk, .rdu, .mck, .evc, .alr] s (recordStep n s).1 := by
  unfold recordStep; dsimp only
  split
  · exact (putJudged_keeps n _ s).mono (by decide +kernel)
  · exact ((((parityFailed_keeps n _ s).mono (by decide +kernel)).trans ((count_keeps .voidSent n _).mono (by decide +kernel))).trans
      ((putJudged_keeps n _ _).mono (by decide +kernel)))

theorem lappedStep_keeps (n : Fin 4) (s : State) :
    KeepsAllBut [.lnk, .rdu, .mck, .evc, .alr] s (lappedStep n s).1 :=
  ((countBy_keeps .voidSent n _ s).mono (by decide +kernel)).trans ((putJudged_keeps n _ _).mono (by decide +kernel))

theorem closeStep_keeps (n : Fin 4) (s : State) : KeepsAllBut [.rdu] s (closeStep n s).1 := setChannel_keeps n _ s

theorem formFrame_keeps (n : Fin 4) (s : State) :
    KeepsAllBut [.lnk, .rdu, .mck, .evc, .alr] s (formFrame n s).1 := by
  unfold formFrame; dsimp only
  split
  · exact (headerStep_keeps n s).mono (by decide +kernel)
  · split
    · exact recordStep_keeps n s
    · exact lappedStep_keeps n s
  · exact (closeStep_keeps n s).mono (by decide +kernel)

theorem takeFrame_keeps (n : Fin 4) (s : State) :
    KeepsAllBut [.lnk, .rdu, .mck, .evc, .alr] s (takeFrame n s) := by
  unfold takeFrame; dsimp only
  exact ((formFrame_keeps n s).trans ((keeps_setLnk _ _).mono (by decide +kernel))).trans
    ((beginFrame_keeps _).mono (by decide +kernel))

theorem fillB_keeps (s : State) :
    KeepsAllBut [.lnk, .rdu, .mck, .evc, .alr] s (fillB s) := by
  unfold fillB; try dsimp only
  repeat' first
    | with_reducible exact KeepsAllBut.refl _ _
    | with_reducible apply KeepsAllBut.after (takeFrame_keeps _ _)
    | split
    | decide +kernel

theorem loseOwner_keeps (a : Addr) (s : State) :
    KeepsAllBut [.lnk, .rdu, .mck, .evc, .alr] s (loseOwner a s) := by
  unfold loseOwner; try dsimp only
  repeat' first
    | with_reducible exact KeepsAllBut.refl _ _
    | with_reducible apply KeepsAllBut.after (fillB_keeps _)
    | with_reducible apply KeepsAllBut.after (keeps_setRdu _ _)
    | split
    | decide +kernel

/-! ### Mat -/

theorem addStopTime_keeps (s : State) :
    KeepsAllBut [.trv] s (addStopTime s) := by
  unfold addStopTime; try dsimp only
  repeat' first
    | with_reducible exact KeepsAllBut.refl _ _
    | with_reducible apply KeepsAllBut.after (keeps_setTrv _ _)
    | split
    | decide +kernel

theorem clearStopTime_keeps (s : State) :
    KeepsAllBut [.trv] s (clearStopTime s) := by
  unfold clearStopTime; try dsimp only
  repeat' first
    | with_reducible exact KeepsAllBut.refl _ _
    | with_reducible apply KeepsAllBut.after (keeps_setTrv _ _)
    | split
    | decide +kernel

theorem judgeJobTime_keeps (s : State) :
    KeepsAllBut [.msi] s (judgeJobTime s) := by
  unfold judgeJobTime; try dsimp only
  repeat' first
    | with_reducible exact KeepsAllBut.refl _ _
    | with_reducible apply KeepsAllBut.after (keeps_setMsi _ _)
    | split
    | decide +kernel

theorem setLastCold_keeps (cold : Bool) (s : State) :
    KeepsAllBut [.gsu, .msi] s (setLastCold cold s) := by
  unfold setLastCold; try dsimp only
  repeat' first
    | with_reducible exact KeepsAllBut.refl _ _
    | with_reducible apply KeepsAllBut.after (keeps_setMsi _ _)
    | with_reducible apply KeepsAllBut.after (recomputeNeed_keeps _)
    | split
    | decide +kernel

theorem actOnCold_keeps (c : ColdSpot) (s : State) :
    KeepsAllBut [.lnk, .gsu, .msi] s (actOnCold c s) := by
  unfold actOnCold; try dsimp only
  repeat' first
    | with_reducible exact KeepsAllBut.refl _ _
    | with_reducible apply KeepsAllBut.after (pushP_keeps _ _)
    | with_reducible apply KeepsAllBut.after (setLastCold_keeps _ _)
    | split
    | decide +kernel

theorem closeInterval_keeps (span : Nat) (s : State) :
    KeepsAllBut [.lnk, .trv, .gsu, .msi, .ring, .rdu, .mck, .evc, .alr] s (closeInterval span s) := by
  unfold closeInterval; try dsimp only
  repeat' first
    | with_reducible exact KeepsAllBut.refl _ _
    | with_reducible apply KeepsAllBut.after (actOnCold_keeps _ _)
    | with_reducible apply KeepsAllBut.after (addStopTime_keeps _)
    | with_reducible apply KeepsAllBut.after (clearStopTime_keeps _)
    | with_reducible apply KeepsAllBut.after (count_keeps _ _ _)
    | with_reducible apply KeepsAllBut.after (fillB_keeps _)
    | with_reducible apply KeepsAllBut.after (judgeJobTime_keeps _)
    | with_reducible apply KeepsAllBut.after (ringWrite_keeps _ _)
    | split
    | decide +kernel

theorem openInterval_keeps (index : Nat) (s : State) :
    KeepsAllBut [.msi] s (openInterval index s) := by
  unfold openInterval; try dsimp only
  repeat' first
    | with_reducible exact KeepsAllBut.refl _ _
    | with_reducible apply KeepsAllBut.after (keeps_setMsi _ _)
    | split
    | decide +kernel

theorem handIndex_keeps (index : Nat) (s : State) :
    KeepsAllBut [.lnk, .trv, .gsu, .msi, .ring, .rdu, .mck, .evc, .alr] s (handIndex index s) := by
  unfold handIndex; try dsimp only
  repeat' first
    | with_reducible exact KeepsAllBut.refl _ _
    | with_reducible apply KeepsAllBut.after (closeInterval_keeps _ _)
    | with_reducible apply KeepsAllBut.after (openInterval_keeps _ _)
    | split
    | decide +kernel

theorem raiseIf_keeps (f : IntervalFlag) (c : Bool) (s : State) :
    KeepsAllBut [.msi] s (raiseIf f c s) := by
  unfold raiseIf; try dsimp only
  repeat' first
    | with_reducible exact KeepsAllBut.refl _ _
    | with_reducible apply KeepsAllBut.after (raiseFlag_keeps _ _)
    | split
    | decide +kernel

theorem judgeFlags_keeps (s : State) :
    KeepsAllBut [.msi] s (judgeFlags s) := by
  unfold judgeFlags; try dsimp only
  repeat' first
    | with_reducible exact KeepsAllBut.refl _ _
    | with_reducible apply KeepsAllBut.after (raiseIf_keeps _ _ _)
    | split
    | decide +kernel

theorem emptySweep_keeps (s : State) :
    KeepsAllBut [.lnk, .msi, .alr] s (emptySweep s) := by
  unfold emptySweep; try dsimp only
  repeat' first
    | with_reducible exact KeepsAllBut.refl _ _
    | with_reducible apply KeepsAllBut.after (judgeFlags_keeps _)
    | with_reducible apply KeepsAllBut.after (judgeJobTime_keeps _)
    | with_reducible apply KeepsAllBut.after (raiseFlag_keeps _ _)
    | with_reducible apply KeepsAllBut.after (raise_keeps _ _)
    | split
    | decide +kernel

theorem restartSweep_keeps (s : State) :
    KeepsAllBut [.msi] s (restartSweep s) := by
  unfold restartSweep; try dsimp only
  repeat' first
    | with_reducible exact KeepsAllBut.refl _ _
    | with_reducible apply KeepsAllBut.after (keeps_setMsi _ _)
    | split
    | decide +kernel

theorem takeSweep_keeps (readings : List (Option Int)) (s : State) :
    KeepsAllBut [.msi, .alr] s (takeSweep readings s) := by
  unfold takeSweep; try dsimp only
  repeat' first
    | with_reducible exact KeepsAllBut.refl _ _
    | with_reducible apply KeepsAllBut.after (judgeFlags_keeps _)
    | with_reducible apply KeepsAllBut.after (judgeJobTime_keeps _)
    | with_reducible apply KeepsAllBut.after (keeps_setMsi _ _)
    | with_reducible apply KeepsAllBut.after (lower_keeps _ _)
    | split
    | decide +kernel

/-! ### Levelling -/

theorem setLvcWith_keeps (f : Lvc → Lvc) (s : State) : KeepsAllBut [.lvc] s (setLvcWith f s) := keeps_setLvc _ _

theorem judgeSaturation_keeps (t uMax : Int) (s : State) :
    KeepsAllBut [.lnk, .lvc, .evc, .alr] s (judgeSaturation t uMax s) := by
  unfold judgeSaturation; try dsimp only
  repeat' first
    | with_reducible exact KeepsAllBut.refl _ _
    | with_reducible apply KeepsAllBut.after (count_keeps _ _ _)
    | with_reducible apply KeepsAllBut.after (setLvcWith_keeps _ _)
    | split
    | decide +kernel

theorem changeMode_keeps (m : LevelMode) (s : State) :
    KeepsAllBut [.lvc] s (changeMode m s) := by
  unfold changeMode; try dsimp only
  repeat' first
    | with_reducible exact KeepsAllBut.refl _ _
    | with_reducible apply KeepsAllBut.after (setLvcWith_keeps _ _)
    | split
    | decide +kernel

theorem endTrial_keeps (reason : TrialReason) (s : State) :
    KeepsAllBut [.lnk, .lvc, .alr] s (endTrial reason s) := by
  unfold endTrial; try dsimp only
  repeat' first
    | with_reducible exact KeepsAllBut.refl _ _
    | with_reducible apply KeepsAllBut.after (raise_keeps _ _)
    | with_reducible apply KeepsAllBut.after (setLvcWith_keeps _ _)
    | split
    | decide +kernel

theorem enterHold_keeps (r : HoldReason) (s : State) :
    KeepsAllBut [.lnk, .lvc, .evc, .alr] s (enterHold r s) := by
  unfold enterHold; try dsimp only
  repeat' first
    | with_reducible exact KeepsAllBut.refl _ _
    | with_reducible apply KeepsAllBut.after (changeMode_keeps _ _)
    | with_reducible apply KeepsAllBut.after (count_keeps _ _ _)
    | with_reducible apply KeepsAllBut.after (endTrial_keeps _ _)
    | with_reducible apply KeepsAllBut.after (raise_keeps _ _)
    | split
    | decide +kernel

theorem levellingOff_keeps (reason : TrialReason) (s : State) :
    KeepsAllBut [.lnk, .lvc, .alr] s (levellingOff reason s) := by
  unfold levellingOff; try dsimp only
  repeat' first
    | with_reducible exact KeepsAllBut.refl _ _
    | with_reducible apply KeepsAllBut.after (changeMode_keeps _ _)
    | with_reducible apply KeepsAllBut.after (endTrial_keeps _ _)
    | split
    | decide +kernel

theorem setWatch_keeps (s : State) :
    KeepsAllBut [.lvc] s (setWatch s) := by
  unfold setWatch; try dsimp only
  repeat' first
    | with_reducible exact KeepsAllBut.refl _ _
    | with_reducible apply KeepsAllBut.after (setLvcWith_keeps _ _)
    | split
    | decide +kernel

theorem revert_keeps (guardDuty : Int) (s : State) :
    KeepsAllBut [.lvc] s (revert guardDuty s) := by
  unfold revert; try dsimp only
  repeat' first
    | with_reducible exact KeepsAllBut.refl _ _
    | with_reducible apply KeepsAllBut.after (setLvcWith_keeps _ _)
    | split
    | decide +kernel

theorem driveActive_keeps (e : Int) (s : State) :
    KeepsAllBut [.lnk, .lvc, .evc, .alr] s (driveActive e s) := by
  unfold driveActive; try dsimp only
  repeat' first
    | with_reducible exact KeepsAllBut.refl _ _
    | with_reducible apply KeepsAllBut.after (judgeSaturation_keeps _ _ _)
    | with_reducible apply KeepsAllBut.after (setLvcWith_keeps _ _)
    | split
    | decide +kernel

theorem pauseCycle_keeps (s : State) :
    KeepsAllBut [.lvc] s (pauseCycle s) := by
  unfold pauseCycle; try dsimp only
  repeat' first
    | with_reducible exact KeepsAllBut.refl _ _
    | with_reducible apply KeepsAllBut.after (setLvcWith_keeps _ _)
    | split
    | decide +kernel

theorem judgeStrike_keeps (t : Trial) (s : State) :
    KeepsAllBut [.lnk, .lvc, .evc, .alr] s (judgeStrike t s) := by
  unfold judgeStrike; try dsimp only
  repeat' first
    | with_reducible exact KeepsAllBut.refl _ _
    | with_reducible apply KeepsAllBut.after (count_keeps _ _ _)
    | with_reducible apply KeepsAllBut.after (endTrial_keeps _ _)
    | with_reducible apply KeepsAllBut.after (revert_keeps _ _)
    | with_reducible apply KeepsAllBut.after (setLvcWith_keeps _ _)
    | split
    | decide +kernel

theorem driveTrial_keeps (t : Trial) (e : Int) (s : State) :
    KeepsAllBut [.lnk, .lvc, .evc, .alr] s (driveTrial t e s) := by
  unfold driveTrial; try dsimp only
  repeat' first
    | with_reducible exact KeepsAllBut.refl _ _
    | with_reducible apply KeepsAllBut.after (judgeSaturation_keeps _ _ _)
    | with_reducible apply KeepsAllBut.after (judgeStrike_keeps _ _)
    | with_reducible apply KeepsAllBut.after (setLvcWith_keeps _ _)
    | split
    | decide +kernel

theorem pauseTrial_keeps (t : Trial) (e : Int) (s : State) :
    KeepsAllBut [.lvc] s (pauseTrial t e s) := by
  unfold pauseTrial; try dsimp only
  repeat' first
    | with_reducible exact KeepsAllBut.refl _ _
    | with_reducible apply KeepsAllBut.after (pauseCycle_keeps _)
    | with_reducible apply KeepsAllBut.after (setLvcWith_keeps _ _)
    | split
    | decide +kernel

theorem cycleOn_keeps (e : Int) (s : State) :
    KeepsAllBut [.lnk, .lvc, .evc, .alr] s (cycleOn e s) := by
  unfold cycleOn; try dsimp only
  repeat' first
    | with_reducible exact KeepsAllBut.refl _ _
    | with_reducible apply KeepsAllBut.after (count_keeps _ _ _)
    | with_reducible apply KeepsAllBut.after (driveActive_keeps _ _)
    | with_reducible apply KeepsAllBut.after (driveTrial_keeps _ _ _)
    | with_reducible apply KeepsAllBut.after (pauseCycle_keeps _)
    | with_reducible apply KeepsAllBut.after (pauseTrial_keeps _ _ _)
    | with_reducible apply KeepsAllBut.after (setLvcWith_keeps _ _)
    | split
    | decide +kernel

theorem cycle_keeps (s : State) :
    KeepsAllBut [.lnk, .lvc, .evc, .alr] s (cycle s) := by
  unfold cycle; try dsimp only
  repeat' first
    | with_reducible exact KeepsAllBut.refl _ _
    | with_reducible apply KeepsAllBut.after (cycleOn_keeps _ _)
    | with_reducible apply KeepsAllBut.after (enterHold_keeps _ _)
    | split
    | decide +kernel

theorem pauseAtOnce_keeps (s : State) :
    KeepsAllBut [.lvc] s (pauseAtOnce s) := by
  unfold pauseAtOnce; try dsimp only
  repeat' first
    | with_reducible exact KeepsAllBut.refl _ _
    | with_reducible apply KeepsAllBut.after (setLvcWith_keeps _ _)
    | split
    | decide +kernel

theorem levelAtTravelChange_keeps (old new : TravelState) (s : State) :
    KeepsAllBut [.lnk, .lvc, .evc, .alr] s (levelAtTravelChange old new s) := by
  unfold levelAtTravelChange; try dsimp only
  repeat' first
    | with_reducible exact KeepsAllBut.refl _ _
    | with_reducible apply KeepsAllBut.after (enterHold_keeps _ _)
    | with_reducible apply KeepsAllBut.after (pauseAtOnce_keeps _)
    | with_reducible apply KeepsAllBut.after (setLvcWith_keeps _ _)
    | split
    | decide +kernel

theorem levelStatusHeard_keeps (src : Addr) (s : State) :
    KeepsAllBut [.lnk, .lvc, .evc, .alr] s (levelStatusHeard src s) := by
  unfold levelStatusHeard; try dsimp only
  repeat' first
    | with_reducible exact KeepsAllBut.refl _ _
    | with_reducible apply KeepsAllBut.after (enterHold_keeps _ _)
    | with_reducible apply KeepsAllBut.after (setWatch_keeps _)
    | split
    | decide +kernel

theorem duplicateLevelSide_keeps (side : Nat) (s : State) :
    KeepsAllBut [.lnk, .lvc, .alr] s (duplicateLevelSide side s) := by
  unfold duplicateLevelSide; try dsimp only
  repeat' first
    | with_reducible exact KeepsAllBut.refl _ _
    | with_reducible apply KeepsAllBut.after (levellingOff_keeps _ _)
    | with_reducible apply KeepsAllBut.after (raise_keeps _ _)
    | split
    | decide +kernel

/-! ### Feeding -/

theorem setFdcWith_keeps (f : Fdc → Fdc) (s : State) : KeepsAllBut [.fdc] s (setFdcWith f s) := keeps_setFdc _ _

theorem judgeStarved_keeps (s : State) :
    KeepsAllBut [.lnk, .alr] s (judgeStarved s) := by
  unfold judgeStarved; try dsimp only
  repeat' first
    | with_reducible exact KeepsAllBut.refl _ _
    | with_reducible apply KeepsAllBut.after (follow_keeps _ _ _)
    | split
    | decide +kernel

theorem changeFeedMode_keeps (m : FeedMode) (s : State) :
    KeepsAllBut [.lnk, .fdc, .alr] s (changeFeedMode m s) := by
  unfold changeFeedMode; try dsimp only
  repeat' first
    | with_reducible exact KeepsAllBut.refl _ _
    | with_reducible apply KeepsAllBut.after (judgeStarved_keeps _)
    | with_reducible apply KeepsAllBut.after (setFdcWith_keeps _ _)
    | split
    | decide +kernel

theorem feedIdle_keeps (s : State) :
    KeepsAllBut [.fdc] s (feedIdle s) := by
  unfold feedIdle; try dsimp only
  repeat' first
    | with_reducible exact KeepsAllBut.refl _ _
    | with_reducible apply KeepsAllBut.after (setFdcWith_keeps _ _)
    | split
    | decide +kernel

theorem startRunOn_keeps (s : State) :
    KeepsAllBut [.fdc] s (startRunOn s) := by
  unfold startRunOn; try dsimp only
  repeat' first
    | with_reducible exact KeepsAllBut.refl _ _
    | with_reducible apply KeepsAllBut.after (feedIdle_keeps _)
    | with_reducible apply KeepsAllBut.after (setFdcWith_keeps _ _)
    | split
    | decide +kernel

theorem feedAtTravelChange_keeps (old new : TravelState) (s : State) :
    KeepsAllBut [.fdc] s (feedAtTravelChange old new s) := by
  unfold feedAtTravelChange; try dsimp only
  repeat' first
    | with_reducible exact KeepsAllBut.refl _ _
    | with_reducible apply KeepsAllBut.after (setFdcWith_keeps _ _)
    | with_reducible apply KeepsAllBut.after (startRunOn_keeps _)
    | split
    | decide +kernel

theorem duplicateFeedSide_keeps (side : Nat) (s : State) :
    KeepsAllBut [.lnk, .fdc, .alr] s (duplicateFeedSide side s) := by
  unfold duplicateFeedSide; try dsimp only
  repeat' first
    | with_reducible exact KeepsAllBut.refl _ _
    | with_reducible apply KeepsAllBut.after (changeFeedMode_keeps _ _)
    | with_reducible apply KeepsAllBut.after (raise_keeps _ _)
    | split
    | decide +kernel

theorem judgeLevel_keeps (paddleClosed : Bool) (s : State) :
    KeepsAllBut [.fdc] s (judgeLevel paddleClosed s) := by
  unfold judgeLevel; try dsimp only
  repeat' first
    | with_reducible exact KeepsAllBut.refl _ _
    | with_reducible apply KeepsAllBut.after (setFdcWith_keeps _ _)
    | split
    | decide +kernel

theorem formDuties_keeps (s : State) :
    KeepsAllBut [.fdc] s (formDuties s) := by
  unfold formDuties; try dsimp only
  repeat' first
    | with_reducible exact KeepsAllBut.refl _ _
    | with_reducible apply KeepsAllBut.after (setFdcWith_keeps _ _)
    | split
    | decide +kernel

theorem evaluateAuto_keeps (s : State) :
    KeepsAllBut [.lnk, .fdc, .evc, .alr] s (evaluateAuto s) := by
  unfold evaluateAuto; try dsimp only
  repeat' first
    | with_reducible exact KeepsAllBut.refl _ _
    | with_reducible apply KeepsAllBut.after (count_keeps _ _ _)
    | with_reducible apply KeepsAllBut.after (feedIdle_keeps _)
    | with_reducible apply KeepsAllBut.after (formDuties_keeps _)
    | split
    | decide +kernel

theorem enterStarved_keeps (s : State) :
    KeepsAllBut [.lnk, .fdc, .evc, .alr] s (enterStarved s) := by
  unfold enterStarved; try dsimp only
  repeat' first
    | with_reducible exact KeepsAllBut.refl _ _
    | with_reducible apply KeepsAllBut.after (count_keeps _ _ _)
    | with_reducible apply KeepsAllBut.after (judgeStarved_keeps _)
    | with_reducible apply KeepsAllBut.after (setFdcWith_keeps _ _)
    | split
    | decide +kernel

theorem starveOn_keeps (s : State) :
    KeepsAllBut [.lnk, .fdc, .evc, .alr] s (starveOn s) := by
  unfold starveOn; try dsimp only
  repeat' first
    | with_reducible exact KeepsAllBut.refl _ _
    | with_reducible apply KeepsAllBut.after (enterStarved_keeps _)
    | with_reducible apply KeepsAllBut.after (setFdcWith_keeps _ _)
    | split
    | decide +kernel

theorem judgeStarvation_keeps (s : State) :
    KeepsAllBut [.lnk, .fdc, .evc, .alr] s (judgeStarvation s) := by
  unfold judgeStarvation; try dsimp only
  repeat' first
    | with_reducible exact KeepsAllBut.refl _ _
    | with_reducible apply KeepsAllBut.after (judgeStarved_keeps _)
    | with_reducible apply KeepsAllBut.after (setFdcWith_keeps _ _)
    | with_reducible apply KeepsAllBut.after (starveOn_keeps _)
    | split
    | decide +kernel

theorem evaluateFeed_keeps (paddleClosed : Bool) (s : State) :
    KeepsAllBut [.lnk, .fdc, .evc, .alr] s (evaluateFeed paddleClosed s) := by
  unfold evaluateFeed; try dsimp only
  repeat' first
    | with_reducible exact KeepsAllBut.refl _ _
    | with_reducible apply KeepsAllBut.after (evaluateAuto_keeps _)
    | with_reducible apply KeepsAllBut.after (judgeLevel_keeps _ _)
    | with_reducible apply KeepsAllBut.after (judgeStarvation_keeps _)
    | split
    | decide +kernel

/-! ### Tracking -/

theorem setTrvWith_keeps (f : Trv → Trv) (s : State) : KeepsAllBut [.trv] s (setTrvWith f s) := keeps_setTrv _ _

theorem setTravelState_keeps (new : TravelState) (s : State) :
    KeepsAllBut [.cfg, .lnk, .trv, .zht, .gsu, .lvc, .fdc, .evc, .alr] s (setTravelState new s) := by
  unfold setTravelState; try dsimp only
  repeat' first
    | with_reducible exact KeepsAllBut.refl _ _
    | with_reducible apply KeepsAllBut.after (addStopTime_keeps _)
    | with_reducible apply KeepsAllBut.after (feedAtTravelChange_keeps _ _ _)
    | with_reducible apply KeepsAllBut.after (heatAtTravelChange_keeps _ _ _)
    | with_reducible apply KeepsAllBut.after (levelAtTravelChange_keeps _ _ _)
    | with_reducible apply KeepsAllBut.after (setTrvWith_keeps _ _)
    | split
    | decide +kernel

theorem updateIndex_keeps (s : State) :
    KeepsAllBut [.lnk, .trv, .gsu, .msi, .ring, .rdu, .mck, .evc, .alr] s (updateIndex s) := by
  unfold updateIndex; try dsimp only
  repeat' first
    | with_reducible exact KeepsAllBut.refl _ _
    | with_reducible apply KeepsAllBut.after (handIndex_keeps _ _)
    | with_reducible apply KeepsAllBut.after (setTrvWith_keeps _ _)
    | split
    | decide +kernel

theorem updateBayTravel_keeps (left right : TrackCount) (s : State) :
    KeepsAllBut [.lnk, .trv, .gsu, .msi, .ring, .rdu, .mck, .evc, .alr] s (updateBayTravel left right s) := by
  unfold updateBayTravel; try dsimp only
  repeat' first
    | with_reducible exact KeepsAllBut.refl _ _
    | with_reducible apply KeepsAllBut.after (setTrvWith_keeps _ _)
    | with_reducible apply KeepsAllBut.after (updateIndex_keeps _)
    | split
    | decide +kernel

theorem rebase_keeps (left right : TrackCount) (s : State) :
    KeepsAllBut [.lnk, .trv, .gsu, .msi, .ring, .rdu, .mck, .evc, .alr] s (rebase left right s) := by
  unfold rebase; try dsimp only
  repeat' first
    | with_reducible exact KeepsAllBut.refl _ _
    | with_reducible apply KeepsAllBut.after (raiseFlag_keeps _ _)
    | with_reducible apply KeepsAllBut.after (setTrvWith_keeps _ _)
    | with_reducible apply KeepsAllBut.after (updateBayTravel_keeps _ _ _)
    | split
    | decide +kernel

theorem judgeMotion_keeps (inc : Option Int) (s : State) :
    KeepsAllBut [.cfg, .lnk, .trv, .zht, .gsu, .lvc, .fdc, .evc, .alr] s (judgeMotion inc s) := by
  unfold judgeMotion; try dsimp only
  repeat' first
    | with_reducible exact KeepsAllBut.refl _ _
    | with_reducible apply KeepsAllBut.after (setTravelState_keeps _ _)
    | with_reducible apply KeepsAllBut.after (setTrvWith_keeps _ _)
    | split
    | decide +kernel

theorem acceptFrame_keeps (src : Addr) (f : Travel) (s : State) :
    KeepsAllBut [.cfg, .lnk, .trv, .zht, .gsu, .lvc, .fdc, .msi, .ring, .rdu, .mck, .evc, .alr] s (acceptFrame src f s) := by
  unfold acceptFrame; try dsimp only
  repeat' first
    | with_reducible exact KeepsAllBut.refl _ _
    | with_reducible apply KeepsAllBut.after (judgeMotion_keeps _ _)
    | with_reducible apply KeepsAllBut.after (rebase_keeps _ _ _)
    | with_reducible apply KeepsAllBut.after (setTrvWith_keeps _ _)
    | with_reducible apply KeepsAllBut.after (updateBayTravel_keeps _ _ _)
    | split
    | decide +kernel

theorem trackFrame_keeps (src : Addr) (f : Travel) (s : State) :
    KeepsAllBut [.cfg, .lnk, .trv, .zht, .gsu, .lvc, .fdc, .msi, .ring, .rdu, .mck, .evc, .alr] s (trackFrame src f s) := by
  unfold trackFrame; try dsimp only
  repeat' first
    | with_reducible exact KeepsAllBut.refl _ _
    | with_reducible apply KeepsAllBut.after (acceptFrame_keeps _ _ _)
    | split
    | decide +kernel

theorem loseTravel_keeps (s : State) :
    KeepsAllBut [.cfg, .lnk, .trv, .zht, .gsu, .lvc, .fdc, .msi, .evc, .alr] s (loseTravel s) := by
  unfold loseTravel; try dsimp only
  repeat' first
    | with_reducible exact KeepsAllBut.refl _ _
    | with_reducible apply KeepsAllBut.after (count_keeps _ _ _)
    | with_reducible apply KeepsAllBut.after (raiseFlag_keeps _ _)
    | with_reducible apply KeepsAllBut.after (setTravelState_keeps _ _)
    | with_reducible apply KeepsAllBut.after (setTrvWith_keeps _ _)
    | split
    | decide +kernel

theorem openJob_keeps (s : State) :
    KeepsAllBut [.msi] s (openJob s) := by
  unfold openJob; try dsimp only
  repeat' first
    | with_reducible exact KeepsAllBut.refl _ _
    | with_reducible apply KeepsAllBut.after (keeps_setMsi _ _)
    | with_reducible apply KeepsAllBut.after (openInterval_keeps _ _)
    | split
    | decide +kernel

theorem startJob_keeps (s : State) :
    KeepsAllBut [.lnk, .trv, .gsu, .msi, .ring, .rdu, .mck, .evc, .alr] s (startJob s) := by
  unfold startJob; try dsimp only
  repeat' first
    | with_reducible exact KeepsAllBut.refl _ _
    | with_reducible apply KeepsAllBut.after (clearStopTime_keeps _)
    | with_reducible apply KeepsAllBut.after (closeInterval_keeps _ _)
    | with_reducible apply KeepsAllBut.after (keeps_setRing _ _)
    | with_reducible apply KeepsAllBut.after (openJob_keeps _)
    | with_reducible apply KeepsAllBut.after (setTrvWith_keeps _ _)
    | split
    | decide +kernel

theorem endJob_keeps (s : State) :
    KeepsAllBut [.lnk, .trv, .gsu, .msi, .ring, .rdu, .mck, .evc, .alr] s (endJob s) := by
  unfold endJob; try dsimp only
  repeat' first
    | with_reducible exact KeepsAllBut.refl _ _
    | with_reducible apply KeepsAllBut.after (clearStopTime_keeps _)
    | with_reducible apply KeepsAllBut.after (closeInterval_keeps _ _)
    | with_reducible apply KeepsAllBut.after (keeps_setMsi _ _)
    | with_reducible apply KeepsAllBut.after (openInterval_keeps _ _)
    | with_reducible apply KeepsAllBut.after (setTrvWith_keeps _ _)
    | split
    | decide +kernel

/-! ### NodeControl -/

theorem storeGains_keeps (g : Gains) (s : State) :
    KeepsAllBut [.cfg] s (storeGains g s) := by
  unfold storeGains; try dsimp only
  repeat' first
    | with_reducible exact KeepsAllBut.refl _ _
    | with_reducible apply KeepsAllBut.after (keeps_setCfg _ _)
    | split
    | decide +kernel

theorem setNode_keeps (n : NodeState) (s : State) :
    KeepsAllBut [.cfg] s (setNode n s) := by
  unfold setNode; try dsimp only
  repeat' first
    | with_reducible exact KeepsAllBut.refl _ _
    | with_reducible apply KeepsAllBut.after (keeps_setCfg _ _)
    | split
    | decide +kernel

theorem haltEntry_keeps (s : State) :
    KeepsAllBut [.cfg, .lnk, .zht, .gsu, .lvc, .fdc, .msi, .evc, .alr] s (haltEntry s) := by
  unfold haltEntry; try dsimp only
  repeat' first
    | with_reducible exact KeepsAllBut.refl _ _
    | with_reducible apply KeepsAllBut.after (abandonClaim_keeps _)
    | with_reducible apply KeepsAllBut.after (changeFeedMode_keeps _ _)
    | with_reducible apply KeepsAllBut.after (clearReady_keeps _)
    | with_reducible apply KeepsAllBut.after (levellingOff_keeps _ _)
    | with_reducible apply KeepsAllBut.after (mapZones_keeps _ _)
    | with_reducible apply KeepsAllBut.after (reportElements_keeps _)
    | with_reducible apply KeepsAllBut.after (setNode_keeps _ _)
    | split
    | decide +kernel

theorem haltIfAsserted_keeps (s : State) :
    KeepsAllBut [.cfg, .lnk, .zht, .gsu, .lvc, .fdc, .msi, .evc, .alr] s (haltIfAsserted s) := by
  unfold haltIfAsserted; try dsimp only
  repeat' first
    | with_reducible exact KeepsAllBut.refl _ _
    | with_reducible apply KeepsAllBut.after (haltEntry_keeps _)
    | split
    | decide +kernel

theorem runEntry_keeps (s : State) :
    KeepsAllBut [.cfg, .lnk, .gsu] s (runEntry s) := by
  unfold runEntry; try dsimp only
  repeat' first
    | with_reducible exact KeepsAllBut.refl _ _
    | with_reducible apply KeepsAllBut.after (reportChanges_keeps _)
    | with_reducible apply KeepsAllBut.after (setNode_keeps _ _)
    | split
    | decide +kernel

theorem powered_keeps (pins : StrapPins) (s : State) :
    KeepsAllBut [.now, .resetLine, .pins, .cfg, .lnk, .ptb, .trv, .zht, .gsu, .lvc, .fdc, .msi, .ring, .rdu, .mck, .evc,
      .alr] s (powered pins s) := by
  intro p hp; cases p <;> first | rfl | exact absurd (by decide +kernel) hp

theorem latchAtReset_keeps (conflict : Bool) (s : State) :
    KeepsAllBut [.lnk, .alr] s (latchAtReset conflict s) := by
  unfold latchAtReset; try dsimp only
  repeat' first
    | with_reducible exact KeepsAllBut.refl _ _
    | with_reducible apply KeepsAllBut.after (raise_keeps _ _)
    | split
    | decide +kernel

theorem powerUp_keeps (pins : StrapPins) (s : State) :
    KeepsAllBut [.now, .resetLine, .pins, .cfg, .lnk, .ptb, .trv, .zht, .gsu, .lvc, .fdc, .msi, .ring, .rdu, .mck, .evc, .alr] s (powerUp pins s) := by
  unfold powerUp; try dsimp only
  repeat' first
    | with_reducible exact KeepsAllBut.refl _ _
    | with_reducible apply KeepsAllBut.after (latchAtReset_keeps _ _)
    | with_reducible apply KeepsAllBut.after (powered_keeps _ _)
    | split
    | decide +kernel

theorem resetBlocks_keeps (pins : StrapPins) (s : State) :
    KeepsAllBut [.resetLine, .pins, .cfg, .lnk, .ptb, .trv, .zht, .gsu, .lvc, .fdc, .msi, .rdu, .mck, .evc, .alr] s
      (resetBlocks pins s) := by
  intro p hp; cases p <;> first | rfl | exact absurd (by decide +kernel) hp

theorem warmReset_keeps (pins : StrapPins) (s : State) :
    KeepsAllBut [.resetLine, .pins, .cfg, .lnk, .ptb, .trv, .zht, .gsu, .lvc, .fdc, .msi, .rdu, .mck, .evc, .alr] s (warmReset pins s) := by
  unfold warmReset; try dsimp only
  repeat' first
    | with_reducible exact KeepsAllBut.refl _ _
    | with_reducible apply KeepsAllBut.after (haltIfAsserted_keeps _)
    | with_reducible apply KeepsAllBut.after (latchAtReset_keeps _ _)
    | with_reducible apply KeepsAllBut.after (queueDemand_keeps _)
    | with_reducible apply KeepsAllBut.after (recomputeNeed_keeps _)
    | with_reducible apply KeepsAllBut.after (resetBlocks_keeps _ _)
    | split
    | decide +kernel

theorem resetAtNodeReset_keeps (s : State) :
    KeepsAllBut [.resetLine, .pins, .strapReadings, .cfg, .lnk, .ptb, .trv, .zht, .gsu, .lvc, .fdc, .msi, .rdu, .mck, .evc, .alr] s (resetAtNodeReset s) := by
  unfold resetAtNodeReset; try dsimp only
  repeat' first
    | with_reducible exact KeepsAllBut.refl _ _
    | with_reducible apply KeepsAllBut.after (keeps_setStrapReadings _ _)
    | with_reducible apply KeepsAllBut.after (warmReset_keeps _ _)
    | split
    | decide +kernel

theorem holdReset_keeps (s : State) :
    KeepsAllBut [.resetLine, .lnk, .zht, .gsu, .lvc, .fdc] s (holdReset s) := by
  unfold holdReset; try dsimp only
  repeat' first
    | with_reducible exact KeepsAllBut.refl _ _
    | with_reducible apply KeepsAllBut.after (keeps_setGsu _ _)
    | with_reducible apply KeepsAllBut.after (keeps_setLnk _ _)
    | with_reducible apply KeepsAllBut.after (keeps_setResetLine _ _)
    | with_reducible apply KeepsAllBut.after (mapZones_keeps _ _)
    | with_reducible apply KeepsAllBut.after (setFdcWith_keeps _ _)
    | with_reducible apply KeepsAllBut.after (setLvcWith_keeps _ _)
    | split
    | decide +kernel

/-! ### Link -/

theorem ensureSending_keeps (s : State) :
    KeepsAllBut [.lnk] s (ensureSending s) := by
  unfold ensureSending; try dsimp only
  repeat' first
    | with_reducible exact KeepsAllBut.refl _ _
    | with_reducible apply KeepsAllBut.after (beginFrame_keeps _)
    | with_reducible apply KeepsAllBut.after (keeps_setLnk _ _)
    | split
    | decide +kernel

theorem endSending_keeps (s : State) :
    KeepsAllBut [.lnk] s (endSending s) := by
  unfold endSending; try dsimp only
  repeat' first
    | with_reducible exact KeepsAllBut.refl _ _
    | with_reducible apply KeepsAllBut.after (keeps_setLnk _ _)
    | split
    | decide +kernel

theorem refill_keeps (x : Slot) (s : State) :
    KeepsAllBut [.lnk, .rdu, .mck, .evc, .alr] s (refill x s) := by
  unfold refill; try dsimp only
  repeat' first
    | with_reducible exact KeepsAllBut.refl _ _
    | with_reducible apply KeepsAllBut.after (fillB_keeps _)
    | with_reducible apply KeepsAllBut.after (fillP_keeps _)
    | with_reducible apply KeepsAllBut.after (fillU_keeps _)
    | split
    | decide +kernel

theorem emptyAndRefill_keeps (x : Slot) (s : State) :
    KeepsAllBut [.lnk, .rdu, .mck, .evc, .alr] s (emptyAndRefill x s) := by
  unfold emptyAndRefill; try dsimp only
  repeat' first
    | with_reducible exact KeepsAllBut.refl _ _
    | with_reducible apply KeepsAllBut.after (keeps_setLnk _ _)
    | with_reducible apply KeepsAllBut.after (refill_keeps _ _)
    | split
    | decide +kernel

theorem openWindow_keeps (s : State) :
    KeepsAllBut [.gsu] s (openWindow s) := by
  unfold openWindow; try dsimp only
  repeat' first
    | with_reducible exact KeepsAllBut.refl _ _
    | with_reducible apply KeepsAllBut.after (keeps_setGsu _ _)
    | split
    | decide +kernel

theorem ownFrame_keeps (b : Body) (s : State) :
    KeepsAllBut [.ptb, .gsu] s (ownFrame b s) := by
  unfold ownFrame; try dsimp only
  repeat' first
    | with_reducible exact KeepsAllBut.refl _ _
    | with_reducible apply KeepsAllBut.after (hear_keeps _ _)
    | with_reducible apply KeepsAllBut.after (keeps_setGsu _ _)
    | with_reducible apply KeepsAllBut.after (openWindow_keeps _)
    | with_reducible apply KeepsAllBut.after (writeClaim_keeps _ _ _)
    | with_reducible apply KeepsAllBut.after (writeDemand_keeps _ _ _)
    | with_reducible apply KeepsAllBut.after (writeFeed_keeps _ _ _)
    | with_reducible apply KeepsAllBut.after (writeLevel_keeps _ _ _)
    | split
    | decide +kernel

theorem carried_keeps (x : Slot) (f : Frame) (s : State) :
    KeepsAllBut [.resetLine, .pins, .strapReadings, .cfg, .lnk, .ptb, .trv, .zht, .gsu, .lvc, .fdc, .msi, .rdu, .mck, .evc, .alr] s (carried x f s) := by
  unfold carried; try dsimp only
  repeat' first
    | with_reducible exact KeepsAllBut.refl _ _
    | with_reducible apply KeepsAllBut.after (count_keeps _ _ _)
    | with_reducible apply KeepsAllBut.after (emptyAndRefill_keeps _ _)
    | with_reducible apply KeepsAllBut.after (endSending_keeps _)
    | with_reducible apply KeepsAllBut.after (keeps_setLnk _ _)
    | with_reducible apply KeepsAllBut.after (ownFrame_keeps _ _)
    | with_reducible apply KeepsAllBut.after (resetAtNodeReset_keeps _)
    | split
    | decide +kernel

theorem enterListenOnly_keeps (s : State) :
    KeepsAllBut [.lnk, .zht, .gsu, .msi, .evc, .alr] s (enterListenOnly s) := by
  unfold enterListenOnly; try dsimp only
  repeat' first
    | with_reducible exact KeepsAllBut.refl _ _
    | with_reducible apply KeepsAllBut.after (dropElements_keeps _)
    | with_reducible apply KeepsAllBut.after (keeps_setLnk _ _)
    | with_reducible apply KeepsAllBut.after (raise_keeps _ _)
    | split
    | decide +kernel

theorem transmitError_keeps (f : Frame) (s : State) :
    KeepsAllBut [.lnk, .zht, .gsu, .msi, .evc, .alr] s (transmitError f s) := by
  unfold transmitError; try dsimp only
  repeat' first
    | with_reducible exact KeepsAllBut.refl _ _
    | with_reducible apply KeepsAllBut.after (count_keeps _ _ _)
    | with_reducible apply KeepsAllBut.after (endSending_keeps _)
    | with_reducible apply KeepsAllBut.after (enterListenOnly_keeps _)
    | with_reducible apply KeepsAllBut.after (keeps_setLnk _ _)
    | split
    | decide +kernel

theorem leaveListenOnly_keeps (s : State) :
    KeepsAllBut [.lnk, .gsu, .rdu, .mck, .evc, .alr] s (leaveListenOnly s) := by
  unfold leaveListenOnly; try dsimp only
  repeat' first
    | with_reducible exact KeepsAllBut.refl _ _
    | with_reducible apply KeepsAllBut.after (fillB_keeps _)
    | with_reducible apply KeepsAllBut.after (keeps_setLnk _ _)
    | with_reducible apply KeepsAllBut.after (lower_keeps _ _)
    | with_reducible apply KeepsAllBut.after (queueDemand_keeps _)
    | split
    | decide +kernel

/-! ### Peers -/

theorem setView_keeps (a : Addr) (c : Option (Claim × Time)) (s : State) :
    KeepsAllBut [.gsu] s (setView a c s) := by
  unfold setView; try dsimp only
  repeat' first
    | with_reducible exact KeepsAllBut.refl _ _
    | with_reducible apply KeepsAllBut.after (keeps_setGsu _ _)
    | split
    | decide +kernel

theorem demandHeard_keeps (a : Addr) (d : Demand) (s : State) :
    KeepsAllBut [.lnk, .ptb, .zht, .gsu, .msi, .evc, .alr] s (demandHeard a d s) := by
  unfold demandHeard; try dsimp only
  repeat' first
    | with_reducible exact KeepsAllBut.refl _ _
    | with_reducible apply KeepsAllBut.after (evaluateShed_keeps _)
    | with_reducible apply KeepsAllBut.after (judgeOverload_keeps _)
    | with_reducible apply KeepsAllBut.after (setView_keeps _ _ _)
    | with_reducible apply KeepsAllBut.after (writeDemand_keeps _ _ _)
    | split
    | decide +kernel

theorem claimHeard_keeps (a : Addr) (c : Claim) (s : State) :
    KeepsAllBut [.ptb, .gsu] s (claimHeard a c s) := by
  unfold claimHeard; try dsimp only
  repeat' first
    | with_reducible exact KeepsAllBut.refl _ _
    | with_reducible apply KeepsAllBut.after (setView_keeps _ _ _)
    | with_reducible apply KeepsAllBut.after (writeClaim_keeps _ _ _)
    | split
    | decide +kernel

theorem levelHeard_keeps (a : Addr) (l : LevelStatus) (s : State) :
    KeepsAllBut [.lnk, .ptb, .lvc, .evc, .alr] s (levelHeard a l s) := by
  unfold levelHeard; try dsimp only
  repeat' first
    | with_reducible exact KeepsAllBut.refl _ _
    | with_reducible apply KeepsAllBut.after (duplicateLevelSide_keeps _ _)
    | with_reducible apply KeepsAllBut.after (levelStatusHeard_keeps _ _)
    | with_reducible apply KeepsAllBut.after (writeLevel_keeps _ _ _)
    | split
    | decide +kernel

theorem feedHeard_keeps (a : Addr) (f : FeedPart) (s : State) :
    KeepsAllBut [.lnk, .ptb, .fdc, .alr] s (feedHeard a f s) := by
  unfold feedHeard; try dsimp only
  repeat' first
    | with_reducible exact KeepsAllBut.refl _ _
    | with_reducible apply KeepsAllBut.after (duplicateFeedSide_keeps _ _)
    | with_reducible apply KeepsAllBut.after (writeFeed_keeps _ _ _)
    | split
    | decide +kernel

theorem travelHeard_keeps (a : Addr) (f : Travel) (s : State) :
    KeepsAllBut [.cfg, .lnk, .ptb, .trv, .zht, .gsu, .lvc, .fdc, .msi, .ring, .rdu, .mck, .evc, .alr] s (travelHeard a f s) := by
  unfold travelHeard; try dsimp only
  repeat' first
    | with_reducible exact KeepsAllBut.refl _ _
    | with_reducible apply KeepsAllBut.after (trackFrame_keeps _ _ _)
    | with_reducible apply KeepsAllBut.after (writeTravel_keeps _ _ _)
    | split
    | decide +kernel

theorem scanEntry_keeps (a : Addr) (s : State) :
    KeepsAllBut [.lnk, .ptb, .gsu, .rdu, .mck, .evc, .alr] s (scanEntry a s) := by
  unfold scanEntry; try dsimp only
  repeat' first
    | with_reducible exact KeepsAllBut.refl _ _
    | with_reducible apply KeepsAllBut.after (loseOwner_keeps _ _)
    | with_reducible apply KeepsAllBut.after (raise_keeps _ _)
    | with_reducible apply KeepsAllBut.after (setEntry_keeps _ _ _)
    | with_reducible apply KeepsAllBut.after (setView_keeps _ _ _)
    | split
    | decide +kernel

theorem scanAll_keeps (l : List Addr) (s : State) :
    KeepsAllBut [.lnk, .ptb, .gsu, .rdu, .mck, .evc, .alr] s (l.foldl (fun s a => scanEntry a s) s) := by
  induction l generalizing s with
  | nil => exact KeepsAllBut.refl _ s
  | cons a l ih => exact ((scanEntry_keeps a s).mono (by decide +kernel)).trans (ih _)

theorem scan_keeps (s : State) : KeepsAllBut [.lnk, .ptb, .gsu, .rdu, .mck, .evc, .alr] s (scan s) := by
  unfold scan; dsimp only
  split
  · exact (scanAll_keeps stations s).trans ((judgeOverload_keeps _).mono (by decide +kernel))
  · exact scanAll_keeps stations s

/-! ### Requests -/

theorem putReply_keeps (n : Nat) (f : Frame) (s : State) :
    KeepsAllBut [.lnk] s (putReply n f s) := by
  unfold putReply; try dsimp only
  repeat' first
    | with_reducible exact KeepsAllBut.refl _ _
    | with_reducible apply KeepsAllBut.after (keeps_setLnk _ _)
    | split
    | decide +kernel

theorem countAnswer_keeps (src : Addr) (code : ReplyCode) (s : State) :
    KeepsAllBut [.lnk, .evc, .alr] s (countAnswer src code s) := by
  unfold countAnswer; try dsimp only
  repeat' first
    | with_reducible exact KeepsAllBut.refl _ _
    | with_reducible apply KeepsAllBut.after (count_keeps _ _ _)
    | split
    | decide +kernel

/-! ### ConfigRequests -/

theorem commit_keeps (s : State) :
    KeepsAllBut [.cfg, .lnk, .trv, .zht, .gsu, .lvc, .fdc, .msi, .ring, .rdu, .mck, .evc, .alr] s (commit s) := by
  unfold commit; try dsimp only
  repeat' first
    | with_reducible exact KeepsAllBut.refl _ _
    | with_reducible apply KeepsAllBut.after (haltIfAsserted_keeps _)
    | with_reducible apply KeepsAllBut.after (handIndex_keeps _ _)
    | with_reducible apply KeepsAllBut.after (keeps_setCfg _ _)
    | with_reducible apply KeepsAllBut.after (runEntry_keeps _)
    | with_reducible apply KeepsAllBut.after (setLvcWith_keeps _ _)
    | split
    | decide +kernel

/-! ### HeatRequests -/

theorem setSetpoints_keeps (v : Vector Int 4) (s : State) :
    KeepsAllBut [.cfg] s (setSetpoints v s) := by
  unfold setSetpoints; try dsimp only
  repeat' first
    | with_reducible exact KeepsAllBut.refl _ _
    | with_reducible apply KeepsAllBut.after (keeps_setCfg _ _)
    | split
    | decide +kernel

theorem heatOff_keeps (s : State) :
    KeepsAllBut [.cfg, .lnk, .zht, .gsu, .msi, .evc, .alr] s (heatOff s) := by
  unfold heatOff; try dsimp only
  repeat' first
    | with_reducible exact KeepsAllBut.refl _ _
    | with_reducible apply KeepsAllBut.after (clearReady_keeps _)
    | with_reducible apply KeepsAllBut.after (drawChanged_keeps _)
    | with_reducible apply KeepsAllBut.after (keeps_setCfg _ _)
    | with_reducible apply KeepsAllBut.after (mapZones_keeps _ _)
    | with_reducible apply KeepsAllBut.after (reportChanges_keeps _)
    | with_reducible apply KeepsAllBut.after (stopStandby_keeps _)
    | with_reducible apply KeepsAllBut.after (withdrawClaim_keeps _)
    | split
    | decide +kernel

theorem heatOn_keeps (s : State) :
    KeepsAllBut [.cfg, .lnk, .zht, .gsu] s (heatOn s) := by
  unfold heatOn; try dsimp only
  repeat' first
    | with_reducible exact KeepsAllBut.refl _ _
    | with_reducible apply KeepsAllBut.after (setHeatMode_keeps _ _)
    | with_reducible apply KeepsAllBut.after (startStandby_keeps _)
    | with_reducible apply KeepsAllBut.after (stopStandby_keeps _)
    | split
    | decide +kernel

theorem heatStandby_keeps (s : State) :
    KeepsAllBut [.cfg, .lnk, .zht, .gsu] s (heatStandby s) := by
  unfold heatStandby; try dsimp only
  repeat' first
    | with_reducible exact KeepsAllBut.refl _ _
    | with_reducible apply KeepsAllBut.after (setHeatMode_keeps _ _)
    | with_reducible apply KeepsAllBut.after (stopStandby_keeps _)
    | split
    | decide +kernel

/-! ### LevelRequests -/

theorem takeMode_keeps (m : LevelMode) (s : State) :
    KeepsAllBut [.lnk, .lvc, .alr] s (takeMode m s) := by
  unfold takeMode; try dsimp only
  repeat' first
    | with_reducible exact KeepsAllBut.refl _ _
    | with_reducible apply KeepsAllBut.after (changeMode_keeps _ _)
    | with_reducible apply KeepsAllBut.after (endTrial_keeps _ _)
    | with_reducible apply KeepsAllBut.after (setWatch_keeps _)
    | split
    | decide +kernel

theorem jogOf_keeps (duty : Int) (duration : Nat) (s : State) :
    KeepsAllBut [.lvc] s (jogOf duty duration s) := by
  unfold jogOf; try dsimp only
  repeat' first
    | with_reducible exact KeepsAllBut.refl _ _
    | with_reducible apply KeepsAllBut.after (setLvcWith_keeps _ _)
    | split
    | decide +kernel

theorem adoptGains_keeps (g : Gains) (s : State) :
    KeepsAllBut [.cfg, .lvc] s (adoptGains g s) := by
  unfold adoptGains; try dsimp only
  repeat' first
    | with_reducible exact KeepsAllBut.refl _ _
    | with_reducible apply KeepsAllBut.after (setLvcWith_keeps _ _)
    | with_reducible apply KeepsAllBut.after (storeGains_keeps _ _)
    | split
    | decide +kernel

theorem startTrial_keeps (g : Gains) (w : Int) (k : Nat) (s : State) :
    KeepsAllBut [.lvc] s (startTrial g w k s) := by
  unfold startTrial; try dsimp only
  repeat' first
    | with_reducible exact KeepsAllBut.refl _ _
    | with_reducible apply KeepsAllBut.after (setLvcWith_keeps _ _)
    | split
    | decide +kernel

/-! ### MonitorRequests -/

theorem setCounter_keeps (n : Fin 4) (c : Counter) (s : State) :
    KeepsAllBut [.evc] s (setCounter n c s) := by
  unfold setCounter; try dsimp only
  repeat' first
    | with_reducible exact KeepsAllBut.refl _ _
    | with_reducible apply KeepsAllBut.after (keeps_setEvc _ _)
    | split
    | decide +kernel

theorem announce_keeps (set : Bits) (s : State) : KeepsAllBut [.lnk] s (announce set s) := by
  unfold announce
  induction alertSources generalizing s with
  | nil => exact KeepsAllBut.refl _ s
  | cons a l ih =>
    refine KeepsAllBut.trans ?_ (ih _)
    dsimp only
    split
    · exact queueAlert_keeps a s
    · exact KeepsAllBut.refl _ s

end Sys2Proof.Safety
end

