-- ==== Sys2Proof/Laws/Ops.lean ====
section
/-! SUPPORT. What each operation every family shares can do: one lemma an operation (or one per case of it), cited in place
of its definition. -/

namespace Sys2Proof.Safety

open Sys2Proof.Machine

/-! ### Bits -/

theorem hasBit_bit (n m : Nat) (h : n < 16) : hasBit (bit n) m = decide (n = m) := by
  unfold hasBit bit
  simp only [BitVec.getLsbD_shiftLeft, BitVec.getLsbD_one]
  by_cases e : n = m
  · subst e; simp [h]
  · simp [e]; omega

theorem hasBit_or (x y : Bits) (n : Nat) : hasBit (x ||| y) n = (hasBit x n || hasBit y n) := by
  simp [hasBit]

theorem hasBit_and_not (x y : Bits) (n : Nat) : hasBit (x &&& ~~~ y) n = (hasBit x n && !hasBit y n) := by
  simp only [hasBit, BitVec.getLsbD_and, BitVec.getLsbD_not]
  by_cases h : n < 16
  · simp [h]
  · simp [BitVec.getLsbD_of_ge x n (by omega)]

theorem AlertSource.number_bounds (a : AlertSource) : 1 ≤ a.number ∧ a.number ≤ 12 := by cases a <;> decide

theorem hasBit_mask (a b : AlertSource) : hasBit a.mask (b.number - 1) = decide (a = b) := by
  cases a <;> cases b <;> decide

/-! ### Slots and pending lists -/

/-- An operation on the waiting frames leaves the tally, the link state, slot B and the pending NODE-RESET alone. -/
def KeepsLink (s t : State) : Prop :=
  t.lnk.tally = s.lnk.tally ∧ t.lnk.listenUntil = s.lnk.listenUntil ∧ t.lnk.slotB = s.lnk.slotB ∧
    t.lnk.resetPending = s.lnk.resetPending

theorem KeepsLink.refl (s : State) : KeepsLink s s := ⟨rfl, rfl, rfl, rfl⟩

theorem KeepsLink.trans {s t u : State} (h : KeepsLink s t) (k : KeepsLink t u) : KeepsLink s u :=
  ⟨k.1.trans h.1, k.2.1.trans h.2.1, k.2.2.1.trans h.2.2.1, k.2.2.2.trans h.2.2.2⟩

theorem KeepsLink.of_lnk {s t : State} (h : t.lnk = s.lnk) : KeepsLink s t := by
  unfold KeepsLink; simp [h]

theorem beginFrame_cases (s : State) :
    beginFrame s = s ∨
      ∃ x, s.lnk.listenUntil = none ∧ s.lnk.lineIdle = true ∧ s.lnk.sending = none ∧ chooseSlot s = some x ∧
        beginFrame s = s.setLnk { s.lnk with sending := some x, lineIdle := false } := by
  unfold beginFrame
  split
  · rename_i h
    simp only [State.active, Bool.and_eq_true, Option.isNone_iff_eq_none] at h
    split
    · rename_i x hx; exact .inr ⟨x, h.1.1, h.1.2, h.2, hx, rfl⟩
    · exact .inl rfl
  · exact .inl rfl

theorem beginFrame_link (s : State) : KeepsLink s (beginFrame s) := by
  obtain h | ⟨x, -, -, -, -, h⟩ := beginFrame_cases s <;> rw [h]
  · exact KeepsLink.refl s
  · exact ⟨rfl, rfl, rfl, rfl⟩

theorem beginFrame_slotB (s : State) : (beginFrame s).lnk.slotB = s.lnk.slotB := by
  obtain h | ⟨x, -, -, -, -, h⟩ := beginFrame_cases s <;> rw [h]
  rfl

/-- The bulk arbiter, whenever it may act, does what `ArbiterFills` says (R162). -/
theorem fillB_fills (v : State) (hb : v.lnk.slotB = none) (ha : v.active = true) (hr : v.resetLine = false) :
    ArbiterFills v (fillB v) := by
  unfold ArbiterFills afterStep fillB
  simp only [hb, ha, hr, Option.isNone_none, Bool.not_false, Bool.and_self, if_true]
  cases readyChannel v with
  | none => simp [hb]
  | some n => exact ⟨beginFrame_slotB _, beginFrame_keeps _ .rdu (by decide), beginFrame_keeps _ .mck (by decide)⟩

/-- The bulk arbiter does nothing while slot B is occupied, in LISTEN-ONLY and under the reset line (R162). -/
theorem fillB_stands (v : State) (h : v.lnk.slotB.isSome = true ∨ v.active = false ∨ v.resetLine = true) : fillB v = v := by
  unfold fillB
  obtain h | h | h := h <;> simp [h, ← Option.not_isSome]

theorem fillU_cases (s : State) :
    fillU s = s ∨ ∃ f rest, s.lnk.slotU = none ∧ s.lnk.uList = f :: rest ∧
      fillU s = s.setLnk { s.lnk with slotU := some f, uList := rest } := by
  unfold fillU
  split
  · rename_i f rest h k; exact .inr ⟨f, rest, h, k, rfl⟩
  · exact .inl rfl

theorem fillU_link (s : State) : KeepsLink s (fillU s) := by
  obtain h | ⟨f, rest, -, -, h⟩ := fillU_cases s <;> rw [h]
  · exact KeepsLink.refl s
  · exact ⟨rfl, rfl, rfl, rfl⟩

theorem fillP_cases (s : State) :
    fillP s = s ∨ ∃ f rest, s.lnk.slotP = none ∧ s.lnk.pList = f :: rest ∧
      fillP s = s.setLnk { s.lnk with slotP := some f, pList := rest } := by
  unfold fillP
  split
  · rename_i f rest h k; exact .inr ⟨f, rest, h, k, rfl⟩
  · exact .inl rfl

theorem fillP_link (s : State) : KeepsLink s (fillP s) := by
  obtain h | ⟨f, rest, -, -, h⟩ := fillP_cases s <;> rw [h]
  · exact KeepsLink.refl s
  · exact ⟨rfl, rfl, rfl, rfl⟩

theorem pushU_link (f : Frame) (s : State) : KeepsLink s (pushU f s) := by
  have h : KeepsLink s (s.setLnk { s.lnk with uList := s.lnk.uList ++ [f] }) := ⟨rfl, rfl, rfl, rfl⟩
  exact (h.trans (fillU_link _)).trans (beginFrame_link _)

/-- A frame handed to the P list waits only while the link is ACTIVE and the reset line released (R185, R189). -/
theorem pushP_idle (b : Body) (s : State) (h : s.active = false ∨ s.resetLine = true) : pushP b s = s := by
  unfold pushP; rcases h with h | h <;> simp [h]

theorem pushP_link (b : Body) (s : State) : KeepsLink s (pushP b s) := by
  unfold pushP; split
  · have h : KeepsLink s (s.setLnk { s.lnk with
        pList := placeP { dst := 15, tag := 0, body := b, resets := false } s.lnk.pList }) := ⟨rfl, rfl, rfl, rfl⟩
    exact (h.trans (fillP_link _)).trans (beginFrame_link _)
  · exact KeepsLink.refl s

theorem queueAlert_link (a : AlertSource) (s : State) : KeepsLink s (queueAlert a s) := by
  unfold queueAlert; split
  · exact pushU_link _ s
  · exact KeepsLink.refl s

/-! ### Alert sources -/

/-- A raised source is present, beside what was present; the mask stays (R175). -/
theorem raise_alr (a : AlertSource) (s : State) :
    (raise a s).alr = { s.alr with present := s.alr.present ||| a.mask } := by
  unfold raise
  split
  · rename_i h
    have e : s.alr.present ||| a.mask = s.alr.present := by
      apply BitVec.eq_of_getLsbD_eq
      intro i hi
      rw [BitVec.getLsbD_or]
      by_cases k : hasBit a.mask i = true
      · have : i = a.number - 1 := by
          have := hasBit_bit (a.number - 1) i (by have := AlertSource.number_bounds a; omega)
          unfold AlertSource.mask at k
          rw [this] at k
          simpa using (of_decide_eq_true k).symm
        subst this
        unfold hasBit at h
        simp [h]
      · unfold hasBit at k; simp [k]
    rw [e]
  · dsimp only
    split
    · exact (queueAlert_keeps a _).alr
    · rfl

theorem raise_link (a : AlertSource) (s : State) : KeepsLink s (raise a s) := by
  unfold raise; dsimp only
  split
  · exact KeepsLink.refl s
  · split
    · exact KeepsLink.trans (KeepsLink.of_lnk rfl) (queueAlert_link a _)
    · exact KeepsLink.of_lnk rfl

/-- A lowered source is absent and nothing else changes (R175). -/
theorem lower_eq (a : AlertSource) (s : State) :
    lower a s = s.setAlr { s.alr with present := s.alr.present &&& ~~~ a.mask } := rfl

/-- The presence of a source after `raise`. -/
theorem raise_present (a b : AlertSource) (s : State) :
    isPresent (raise a s) b ↔ isPresent s b ∨ a = b := by
  unfold isPresent; rw [raise_alr]; simp [hasBit_or, hasBit_mask]

/-- The presence of a source after `lower`. -/
theorem lower_present (a b : AlertSource) (s : State) :
    isPresent (lower a s) b ↔ isPresent s b ∧ a ≠ b := by
  unfold isPresent; rw [lower_eq]; simp [hasBit_and_not, hasBit_mask]

/-- A level source that follows its condition is present exactly while it holds; the other sources stay (R175). -/
theorem follow_present (a b : AlertSource) (c : Bool) (s : State) :
    isPresent (follow a c s) b ↔ if a = b then c = true else isPresent s b := by
  unfold follow
  cases c
  · simp only [Bool.false_eq_true, if_false, lower_present]; by_cases e : a = b <;> simp [e]
  · simp only [if_true, raise_present]; by_cases e : a = b <;> simp [e]

theorem follow_mask (a : AlertSource) (c : Bool) (s : State) : (follow a c s).alr.mask = s.alr.mask := by
  unfold follow; split
  · rw [raise_alr]
  · rfl

theorem follow_link (a : AlertSource) (c : Bool) (s : State) : KeepsLink s (follow a c s) := by
  unfold follow; split
  · exact raise_link a s
  · exact KeepsLink.of_lnk rfl

/-! ### Event counters -/

/-- What a counted event does to the counters (R170, R172). -/
theorem countBy_counters (e : Event) (item amount : Nat) (s : State) :
    (countBy e item amount s).evc.counters = countAll e item amount s.now s.trv.index s.evc.counters := by
  unfold countBy; dsimp only
  split
  · rw [(raise_keeps .threshold _).evc]; rfl
  · rfl

/-- What a counted event does to the alert sources: source 11 where a counter reaches its threshold (R172). -/
theorem countBy_alr (e : Event) (item amount : Nat) (s : State) :
    (countBy e item amount s).alr =
      if s.evc.counters.toList.any (reachesThreshold e amount) then
        { s.alr with present := s.alr.present ||| AlertSource.threshold.mask }
      else s.alr := by
  unfold countBy; dsimp only
  split
  · exact raise_alr .threshold _
  · rfl

theorem countBy_link (e : Event) (item amount : Nat) (s : State) : KeepsLink s (countBy e item amount s) := by
  unfold countBy; dsimp only
  split
  · exact KeepsLink.trans (KeepsLink.of_lnk rfl) (raise_link .threshold _)
  · exact KeepsLink.of_lnk rfl

/-- An event no counter selects leaves every counter as it was (R170). -/
theorem countOne_other (e : Event) (item amount : Nat) (now : Time) (index : Nat) (n : Fin 4) (c : Counter)
    (h : c.selection ≠ e.code) : countOne e item amount now index n c = c := by
  unfold countOne; simp [h]

/-- A filled capture stands whatever is counted, until a clearing (R172). -/
theorem countOne_capture (e : Event) (item amount : Nat) (now : Time) (index : Nat) (n : Fin 4) (c : Counter)
    (h : c.capture.isSome = true) : (countOne e item amount now index n c).capture = c.capture := by
  have r : reachesThreshold e amount c = false := by
    unfold reachesThreshold; cases k : c.capture <;> simp_all
  unfold countOne; split <;> simp [r]

/-- A counted value never exceeds 16777215 (R170). -/
theorem countOne_value_le (e : Event) (item amount : Nat) (now : Time) (index : Nat) (n : Fin 4) (c : Counter)
    (h : c.value ≤ max24) : (countOne e item amount now index n c).value ≤ max24 := by
  unfold countOne countedValue; split
  · exact Nat.min_le_left ..
  · exact h

/-! ### Time and flags -/

theorem reach_cases (due : Time) (s : State) : reach due s = s ∨ reach due s = s.setNow due := by
  unfold reach; split
  · exact .inr rfl
  · exact .inl rfl

/-- A flag raised on the open interval: set while MSI accumulates, nothing otherwise (R135). -/
theorem raiseFlag_flags (f : IntervalFlag) (s : State) :
    (raiseFlag f s).msi.flags = if accumulates s then s.msi.flags ||| bit f.position else s.msi.flags := by
  unfold raiseFlag; split <;> rfl

/-! ### The ready flag -/

/-- What judging the ready flag can do (R46): with the condition failing, or a zone just put in FAULT, the flag is clear and
the start none; with it holding the start is kept, or is now, and the flag is set once the start is 60 s old. -/
theorem judgeReady_zht (faulted : Bool) (s : State) :
    (judgeReady faulted s).zht =
      if faulted = true ∨ readyCondition s = false then { s.zht with readyStart := none, ready := false }
      else { s.zht with
        readyStart := some (s.zht.readyStart.getD s.now)
        ready := s.zht.ready || s.zht.readyStart.any fun x => decide (60000 ≤ s.age x) } := by
  unfold judgeReady
  cases faulted <;> cases readyCondition s <;> simp
  cases k : s.zht.readyStart with
  | none => simp
  | some x =>
    have e : s.zht = { s.zht with readyStart := some x } := by rw [← k]
    by_cases y : 60000 ≤ s.age x
    · simp [y]
    · simpa [y] using e

/-! ### Frames heard -/

/-- While the reset line is asserted a frame is not taken. -/
theorem received_held (src : Addr) (p : List Byte) (act : State → State) (s : State) (h : s.resetLine = true) :
    received src p act s = s := by
  unfold received unlessHeld; simp [h]

/-- A frame of another station with at most 40 payload bytes is heard, then acted on. -/
theorem received_taken (src : Addr) (p : List Byte) (act : State → State) (s : State) (h : s.resetLine = false)
    (len : p.length ≤ 40) (n15 : src ≠ 15) (other : src ≠ s.self) :
    received src p act s = act (hear src (lineBusy s)) := by
  unfold received unlessHeld; dsimp only
  have : src ≠ (lineBusy s).self := other
  simp [h, Nat.not_lt.mpr len, n15, this]

/-- The frame of what a heard frame does, given the frame of its action. -/
theorem received_keeps {l : List Part} (src : Addr) (p : List Byte) (act : State → State) (s : State)
    (h : ∀ s, KeepsAllBut l s (act s)) (sub : ∀ x ∈ [Part.ptb, .evc, .alr, .lnk], x ∈ l) :
    KeepsAllBut l s (received src p act s) := by
  apply unlessHeld_keeps
  intro s
  dsimp only
  have b : KeepsAllBut l s (lineBusy s) := (lineBusy_keeps s).mono fun x hx => sub x (by simp_all)
  split
  · exact b.trans ((checkFailure_keeps _).mono fun x hx => sub x (by simp at hx ⊢; grind))
  · split
    · exact b
    · split
      · exact b.trans ((ownAddressFrame_keeps _).mono fun x hx => sub x (by simp at hx ⊢; grind))
      · exact (b.trans ((hear_keeps src _).mono fun x hx => sub x (by simp_all))).trans (h _)

/-! ### Requests -/

/-- A class names the request that carries it (R190). -/
theorem requestOfClass_frameClass (k : RequestKind) : requestOfClass k.frameClass = some k := by cases k <;> rfl

/-- A class outside 32..48 names no request (R190). -/
theorem requestOfClass_none (n : Nat) (h : n < 32 ∨ 48 < n) : requestOfClass n = none := by
  unfold requestOfClass
  rw [List.find?_eq_none]
  intro k _
  cases k <;> simp [RequestKind.frameClass] <;> omega

/-- A request is an action of its kind's gate on a frame heard (R186, R190). -/
theorem request_eq (k : RequestKind) (src : Addr) (tag : Byte) (payload : List Byte) (act : State → Answer) (s : State) :
    request k src tag payload act s = .next (received src payload (intake src tag (k.gate payload) act) s) := rfl

/-- While a NODE-RESET waits every request is discarded (R13). -/
theorem intake_discards (src : Addr) (tag : Byte) (gate : State → Bool) (act : State → Answer) (s : State)
    (h : s.lnk.resetPending.isSome = true) : intake src tag gate act s = s := by
  unfold intake; simp [h]

/-- A request whose REPLY cannot be queued is dropped with event 7 (R189). -/
theorem intake_drops (src : Addr) (tag : Byte) (gate : State → Bool) (act : State → Answer) (s : State)
    (h : s.lnk.resetPending = none) (full : canQueueU s = false) :
    intake src tag gate act s = count .requestDropped src s := by
  unfold intake; simp [h, full]

/-- A request whose REPLY finds room is taken (R190). -/
theorem intake_takes (src : Addr) (tag : Byte) (gate : State → Bool) (act : State → Answer) (s : State)
    (h : s.lnk.resetPending = none) (room : canQueueU s = true) :
    intake src tag gate act s = answer src tag gate act s := by
  unfold intake; simp [h, room]

/-- A taken request whose gate is shut: the REPLY REFUSED-STATE, event 6, and nothing of its action (R190, R191). -/
theorem answer_gated (src : Addr) (tag : Byte) (gate : State → Bool) (act : State → Answer) (s : State)
    (h : gate (pushU (openReply src tag) s) = false) :
    answer src tag gate act s =
      countAnswer src (refuse .refusedState (pushU (openReply src tag) s)).code
        (putReply (waitingU s) (replyFrame src tag (refuse .refusedState (pushU (openReply src tag) s)))
          (refuse .refusedState (pushU (openReply src tag) s)).state) := by
  unfold answer; simp [h]

/-- A taken request whose gate is open: its action, the REPLY in its place, its event (R190, R191). -/
theorem answer_open (src : Addr) (tag : Byte) (gate : State → Bool) (act : State → Answer) (s : State)
    (h : gate (pushU (openReply src tag) s) = true) :
    answer src tag gate act s =
      countAnswer src (act (pushU (openReply src tag) s)).code
        (putReply (waitingU s) (replyFrame src tag (act (pushU (openReply src tag) s)))
          (act (pushU (openReply src tag) s)).state) := by
  unfold answer; simp [h]

end Sys2Proof.Safety
end

