-- ==== Sys2Proof/Laws/Ring.lean ====
section
/-! SUPPORT. The record ring: every operation on it keeps its canonical form; a written slot reads as written and every
other slot as before. -/

namespace Sys2Proof.Safety

open Sys2Proof.Machine

/-- The ring right after reset is in its canonical form. -/
theorem reset_ring_wf : State.reset.ring.wf = true := by decide

/-- Listed slots above `lo` are listed slots above any lower bound. -/
theorem slotsWf_mono {lo lo' : Nat} (h : lo' ≤ lo) : ∀ l, slotsWf lo l = true → slotsWf lo' l = true
  | [], _ => rfl
  | x :: rest, k => by
    simp only [slotsWf, Bool.and_eq_true, decide_eq_true_eq] at k ⊢
    exact ⟨⟨⟨⟨by omega, k.1.1.1.2⟩, k.1.1.2⟩, k.1.2⟩, k.2⟩

/-- Putting a slot in place keeps the list canonical. -/
theorem insertSlot_slotsWf (x : RingSlot) (b : x.bytes.length = recordBytes) (p : x.parity.length = recordBytes)
    (u : x.slot < ringSlots) :
    ∀ (l : List RingSlot) (lo : Nat), lo ≤ x.slot → slotsWf lo l = true → slotsWf lo (insertSlot x l) = true
  | [], lo, h, _ => by simp [insertSlot, slotsWf, b, p, u, h]
  | y :: rest, lo, h, k => by
    simp only [slotsWf, Bool.and_eq_true, decide_eq_true_eq] at k
    unfold insertSlot
    split
    · rename_i lt
      simp [slotsWf, b, p, u, h, k]
      omega
    · split
      · rename_i eq
        simp only [slotsWf, b, p, u, h, beq_self_eq_true, decide_true, Bool.and_true, Bool.true_and]
        rw [eq]; exact k.2
      · rename_i nlt neq
        have r := insertSlot_slotsWf x b p u rest (y.slot + 1) (by omega) k.2
        simp only [slotsWf, Bool.and_eq_true, decide_eq_true_eq]
        exact ⟨k.1, r⟩

theorem slotOf_lt (q : Seq) : slotOf q < ringSlots := Nat.mod_lt _ (by decide)

/-- A written slot reads as written. -/
theorem insertSlot_find_same (x : RingSlot) :
    ∀ l : List RingSlot, (insertSlot x l).find? (fun y => y.slot == x.slot) = some x
  | [] => by simp [insertSlot]
  | y :: rest => by
    unfold insertSlot
    split
    · simp
    · split
      · simp
      · rename_i neq
        rw [List.find?_cons_of_neg (by simpa using Ne.symm neq)]
        exact insertSlot_find_same x rest

/-- Every other slot reads as before. -/
theorem insertSlot_find_other (x : RingSlot) (n : Nat) (h : n ≠ x.slot) :
    ∀ l : List RingSlot, (insertSlot x l).find? (fun y => y.slot == n) = l.find? (fun y => y.slot == n)
  | [] => by simp [insertSlot, Ne.symm h]
  | y :: rest => by
    unfold insertSlot
    split
    · rw [List.find?_cons_of_neg (by simpa using Ne.symm h)]
    · split
      · rename_i eq
        rw [List.find?_cons_of_neg (by simpa using Ne.symm h), List.find?_cons_of_neg (by rw [← eq]; simpa using Ne.symm h)]
      · simp only [List.find?_cons]
        rw [insertSlot_find_other x n h rest]

/-- Reading the slot just written. -/
theorem read_insert_same (r : Ring) (x : RingSlot) (q : Seq) :
    ({ r with slots := insertSlot x r.slots, nextSeq := q } : Ring).read x.slot = x := by
  unfold Ring.read; simp only [insertSlot_find_same]

/-- Reading any other slot. -/
theorem read_insert_other (r : Ring) (x : RingSlot) (q : Seq) (n : Nat) (h : n ≠ x.slot) :
    ({ r with slots := insertSlot x r.slots, nextSeq := q } : Ring).read n = r.read n := by
  unfold Ring.read; simp only [insertSlot_find_other x n h]

/-- Step 1 of the write changes the record count and the overwritten count alone (R150). -/
theorem makeRoom_ring (s : State) :
    (makeRoom s).ring =
      if s.ring.held = ringSlots then { s.ring with overwritten := min max24 (s.ring.overwritten + 1) }
      else { s.ring with held := s.ring.held + 1 } := by
  unfold makeRoom; dsimp only
  split
  · have := (count_keeps .recordOverwritten 0 s).ring
    simp only [State.setRing_ring, this]
  · rfl

/-- Making room keeps the ring canonical. -/
theorem makeRoom_wf (s : State) (h : s.ring.wf = true) : (makeRoom s).ring.wf = true := by
  rw [makeRoom_ring]
  unfold Ring.wf at h ⊢
  simp only [Bool.and_eq_true, decide_eq_true_eq] at h
  split
  · rename_i e; simp [h.1, e]
  · rename_i ne
    simp only [Bool.and_eq_true, decide_eq_true_eq]
    exact ⟨h.1, by omega⟩

/-- Storing a record of 33 bytes keeps the ring canonical. -/
theorem storeRecord_wf (record : List Byte) (s : State) (b : record.length = recordBytes) (h : s.ring.wf = true) :
    (storeRecord record s).ring.wf = true := by
  unfold Ring.wf at h ⊢
  simp only [Bool.and_eq_true, decide_eq_true_eq] at h
  have k := insertSlot_slotsWf (storedSlot (slotOf s.ring.nextSeq) record s.mck.armed) b
    (by simpa [storedSlot] using b) (slotOf_lt _) s.ring.slots 0 (Nat.zero_le _) h.1
  simp only [storeRecord, State.setMck_ring, State.setRing_ring, Bool.and_eq_true]
  exact ⟨k, decide_eq_true h.2⟩

/-- The write of a record of 33 bytes keeps the ring canonical. -/
theorem ringWrite_wf (record : List Byte) (s : State) (b : record.length = recordBytes) (h : s.ring.wf = true) :
    (ringWrite record s).ring.wf = true :=
  storeRecord_wf record _ b (makeRoom_wf s h)

end Sys2Proof.Safety
end

