-- ==== Sys2Proof/Tests/Slice0.lean ====
section
/-! SUPPORT. Tests. First the checks of WellFormed, each with a term it refuses; then the manual's worked examples, the
expected values copied from the manual's tables; last, for every statement with hypotheses, a state and operands that
meet them together. -/

set_option Elab.async false

namespace Sys2Proof.Tests

open Sys2Proof Sys2Proof.Machine Sys2Proof.Safety

/-! ### Helpers -/

/-- The state after a command; the state before it where the command stops. -/
def after (c : Instr) (s : State) : State :=
  match exec c s with
  | .next t => t
  | .fault _ => s
  | .refused _ => s

/-- `s` with the reset line released and the link ready to take a request. -/
def takes (s : State) : State :=
  (s.setResetLine false).setLnk { s.lnk with resetPending := none, listenUntil := none, uList := [] }

/-- The strap values of `base`: bay 2 with levelling and feed on the left, extending. -/
def baseStraps : Straps := { bay := 2, lev := some .left, feed := some .left, ext := true }

/-- The items of `base`: the defaults, a left bay with 1000 mm of extension travel. -/
def baseItems : Vector Int 44 := putItem (putItem defaultItems 1 1) 4 100

/-- A committed configuration in RUN with heating ON. -/
def baseCfg : Cfg :=
  ({ Cfg.reset with
    node := .run, straps := baseStraps, committed := baseItems, working := baseItems, keptStraps := baseStraps,
    valid := true, check := checkValue baseItems baseStraps, heatMode := .on } : Cfg).measured

/-- A node in RUN on a moving paver, at node time 5000. -/
def base : State :=
  { State.reset with
    now := 5000, cfg := baseCfg, lnk := { Lnk.reset with slotP := none }
    trv := { Trv.reset with
      state := .moving, last := some { src := 14, left := 100, right := 100, seq := some 1, time := some 4990 } } }

/-- `s` if it keeps the laws of the valve, the feed, the node and the heating; else with those blocks at their reset values. -/
def lawful (s : State) : State :=
  if decide (ValveLaw s) && decide (GainItemsLaw s) && decide (FeedLaw s) && decide (NodeLaw s) && decide (HeatLaw s)
  then s
  else
    let c := s.cfg
    let s := s.setLvc (Lvc.reset s.now (gainsOf c.committed))
    let s := (s.setFdc (Fdc.reset s.now false)).setHaltInput false
    let s := (s.setZht (Zht.reset s.now)).setGsu (Gsu.reset s.now)
    s.setCfg { c with valid := true, check := checkValue c.committed c.keptStraps }

/-! ### WellFormed -/

/-- A thermocouple sample is well formed whatever it reads. -/
theorem test_wf_sample : (Instr.thermocoupleSample 2 none none).wellFormed = true := by decide
/-- A sweep of eleven readings is refused. -/
theorem test_wf_sweep : (Instr.sweepArrival (List.replicate 11 none)).wellFormed = false := by decide
/-- A sweep of twelve is not. -/
theorem test_wf_sweep_whole : (Instr.sweepArrival (List.replicate 12 none)).wellFormed = true := by decide
/-- A frame of 41 payload bytes is refused. -/
theorem test_wf_payload : (Instr.demandArrival 3 (List.replicate 41 0)).wellFormed = false := by decide
/-- A broadcast from source 15 is refused. -/
theorem test_wf_arrival_source : (Instr.travelFrame 15 []).wellFormed = false := by decide
/-- A frame of another class from source 15 is refused. -/
theorem test_wf_other_source : (Instr.otherFrameHeard 15).wellFormed = false := by decide
/-- A dropped request from source 15 is refused. -/
theorem test_wf_dropped_source : (Instr.requestDropped 15).wellFormed = false := by decide
/-- A request from source 15 is refused. -/
theorem test_wf_request_source : (Instr.identRead 15 0 []).wellFormed = false := by decide
/-- A class below 49 is no unassigned request. -/
theorem test_wf_class_low : (Instr.unassignedRequest 48 3 0 []).wellFormed = false := by decide
/-- A class above 55 is no unassigned request. -/
theorem test_wf_class_high : (Instr.unassignedRequest 56 3 0 []).wellFormed = false := by decide
/-- HEAT-SET with mode byte 2 is HEAT_SET_ON's and not HEAT_SET_KEEP's. -/
theorem test_wf_first_byte : (Instr.heatSetKeep 3 0 [2]).wellFormed = false := by decide
/-- The capture read of LEVEL-TRIAL has no payload. -/
theorem test_wf_empty_request : (Instr.levelTrialCaptureRead 3 0 [1]).wellFormed = false := by decide
/-- FEED without payload is FEED_STATUS_READ's and not FEED_MODE's. -/
theorem test_wf_filled_request : (Instr.feedMode 3 0 []).wellFormed = false := by decide
/-- A mode byte that names no row of its class may stand with any row of the class. -/
theorem test_wf_unnamed_byte : (Instr.levelModeOff 3 0 [9]).wellFormed = true := by decide
/-- An ill-formed sweep stops the machine. -/
theorem test_ill_formed_sweep : exec (.sweepArrival []) base = .fault .illFormed := rfl
/-- No word spells a command. -/
theorem test_no_word : decodeTableWord 16 5 = none := rfl

/-! ### Chapter 1 -/

/-- The left extending bay of the worked geometry (1.2). -/
def geometryCfg : Cfg :=
  let w := putItem (putItem (putItem (putItem defaultItems 1 1) 2 (-200)) 3 150) 4 100
  ({ baseCfg with committed := w } : Cfg).measured

/-- No arrival yet: width 1500, centre -2750. -/
theorem test_geometry_start : (geometryCfg.width, geometryCfg.centre) = (1500, -2750) := by decide +kernel
/-- e = 650: width 2150, centre -3075. -/
theorem test_geometry_650 :
    let t := after (.extensionSensorArrival (some 650)) (base.setCfg geometryCfg)
    (t.cfg.width, t.cfg.centre) = (2150, -3075) := by decide +kernel
/-- e = 333: the half millimetre is rounded away from zero. -/
theorem test_geometry_333 :
    let t := after (.extensionSensorArrival (some 333)) (base.setCfg geometryCfg)
    (t.cfg.width, t.cfg.centre) = (1833, -2917) := by decide +kernel
/-- The same bay as a right bay at e = 650. -/
theorem test_geometry_right : centreOf 2 (-200) 2150 = -925 := by decide +kernel
/-- The refused commit of the example of 1.4: P = 20 with d at 50 fails check 2. -/
theorem test_commit_refused :
    commitFailure { Cfg.reset with working := putItem (putItem (putItem defaultItems 1 2) 29 20) 28 50 } = some 29 :=
        by decide +kernel
/-- Item 28 set to 60 is stored as 50; item 29 set to 40 is then stored as 55 (the example of 1.4). -/
theorem test_config_set :
    clampItem defaultItems 28 60 = 50 ∧ clampItem (putItem defaultItems 28 50) 29 40 = 55 := by decide +kernel
/-- That bay then passes every check. -/
theorem test_commit_taken :
    commitFailure { Cfg.reset with working := putItem (putItem (putItem defaultItems 1 2) 28 50) 29 55 } = none :=
        by decide +kernel
/-- At power-up with the fourth code on LEV the group is taken as not fitted and source 12 is present (R1). -/
theorem test_fourth_code :
    let t := after (.powerUp { bay := 3, lev := .both, feed := .right, ext := false }) base
    (t.cfg.straps.lev, t.cfg.straps.feed, t.cfg.node, t.alr.present) = (none, some .right, .setup, 0x800) :=
        by decide +kernel
/-- A warm reset with the straps as kept finds the configuration sound; on another bay it does not (R12). -/
theorem test_warm_reset :
    (after (.warmReset { bay := 2, lev := .left, feed := .left, ext := true }) base).cfg.node = .run ∧
      (after (.warmReset { bay := 3, lev := .left, feed := .left, ext := true }) base).cfg.node = .setup :=
          by decide +kernel

/-! ### Chapter 2 -/

/-- Bay travel on a turn: frames a, b and c of the example of 2.4. -/
theorem test_bay_travel :
    interpolate 39860 35866 (-3075) (-1200) 1200 = 42980 ∧ interpolate 40000 36000 (-3075) (-1200) 1200 = 43125 ∧
      interpolate 39970 35973 (-3075) (-1200) 1200 = 43093 := by decide +kernel
/-- The increments of frames b and c. -/
theorem test_increments :
    interpolate 140 134 (-3075) (-1200) 1200 = 145 ∧ interpolate (-30) (-27) (-3075) (-1200) 1200 = -32 :=
        by decide +kernel
/-- The interval index of frames a and b, and after the re-basing at 173. -/
theorem test_index :
    indexOf 0 0 42980 250 = 171 ∧ indexOf 0 0 43125 250 = 172 ∧ indexOf 173 0 0 250 = 173 := by decide +kernel
/-- The travel states of the net motions +113 and -5. -/
theorem test_motion : stateOfMotion 113 = .moving ∧ stateOfMotion (-5) = .reversing ∧ stateOfMotion 4 = .stopped :=
    by decide +kernel

/-- Node 3's last DEMAND heard at node time 10000. -/
def quietPeer (now : Time) : State :=
  (writeDemand 3 { draw := 150, want := 0, need := 18, ready := true, mode := 1, node := 1 }
    (base.setNow 10000)).setNow now

/-- The tiers of the example of 2.2. -/
theorem test_freshness :
    freshness (quietPeer 11500) 3 = .fresh ∧ freshness (quietPeer 11501) 3 = .stale ∧
      freshness (quietPeer 15000) 3 = .stale ∧ freshness (quietPeer 15001) 3 = .gone := by decide +kernel
/-- The first scan after 15000 makes the heating part absent and latches source 8. -/
theorem test_peer_lost :
    let t := after .peerAgeingScan ((quietPeer 15001).setPtb { (quietPeer 15001).ptb with scanDue := 15001 })
    ((t.entry 3).heating, t.alr.present) = (none, 0x80) := by decide +kernel
/-- No TRAVEL for more than 500 ms: travel becomes UNKNOWN (R27). -/
theorem test_travel_lost :
    (after .travelTimerExpiry ((base.setNow 5540).setTrv { base.trv with timerDue := 5540 })).trv.state = .unknown :=
        by decide +kernel

/-! ### Chapter 3 -/

/-- `base` with the reading of a zone. -/
def readZone (z : ZoneId) (x : ZoneState) (r : Int) (s : State) : State :=
  setZone z { s.zone z with state := x, reading := some r } s

/-- The thresholds of the zone example of 3.4. -/
theorem test_thresholds : (onThreshold base 1, offThreshold base 1, overThreshold base 1) = (1360, 1400, 1800) :=
    by decide +kernel
/-- 1352 wants power, with a deficit of 48. -/
theorem test_zone_wants :
    let t := after (.thermocoupleSample 1 (some 1352) (some 0)) base
    ((t.zone 1).state, deficit t 1) = (.want, 48) := by decide +kernel
/-- An ON zone at 1400 becomes IDLE with its element off. -/
theorem test_zone_enough :
    let s := setZone 1 { base.zone 1 with state := .on, element := true } base
    let t := after (.thermocoupleSample 1 (some 1400) (some 900)) s
    ((t.zone 1).state, (t.zone 1).element, t.gsu.ownDraw) = (.idle, false, 0) := by decide +kernel
/-- The third low current in a row puts an ON zone in FAULT with reason CURRENT. -/
theorem test_zone_current :
    let s := setZone 1 { base.zone 1 with state := .on, element := true, lowCount := 2 } base
    let t := after (.thermocoupleSample 1 (some 1379) (some 0)) s
    ((t.zone 1).state, (t.zone 1).reason, (t.zone 1).latch, t.alr.present) = (.fault, .current, true, 2) :=
        by decide +kernel
/-- The choice among wanting zones of 3.5: Z1 at 150 degrees. -/
theorem test_offer :
    let s := base.setCfg { base.cfg with setpoints := #v[140, 150, 140, 140] }
    offeredZone (readZone 0 .want 1300 (readZone 1 .want 1400 (readZone 2 .idle 1380 (readZone 3 .want 1320 s)))) =
      some 1 := by decide +kernel
/-- In standby S is 110 and the on threshold 1060 (3.4). -/
theorem test_standby : onThreshold (base.setCfg { base.cfg with heatMode := .standby }) 1 = 1060 := by decide +kernel

/-! ### Chapter 4 -/

/-- A node whose peers 2, 3 and 5, less itself, draw 180, 150 and 100. -/
def sharing (bay : Fin 8) (own : Nat) : State :=
  let d (a : Addr) (n need : Nat) (s : State) : State :=
    writeDemand a { draw := n, want := 0, need := need, ready := true, mode := 1, node := 1 } s
  let s := base.setCfg { base.cfg with straps := { base.cfg.straps with bay := bay } }
  (d 2 180 60 (d 3 150 18 (d 5 100 52 s))).setGsu { base.gsu with ownDraw := own }

/-- C is 430 at each of the three. -/
theorem test_committed :
    committedDraw (sharing 2 180) = 430 ∧ committedDraw (sharing 3 150) = 430 ∧ committedDraw (sharing 5 100) = 430 :=
        by decide +kernel
/-- Node 2's window at 60 ms with node 5's claim in view: 430 + 30 + 25 = 485 exceeds 460. -/
theorem test_claim_withdrawn :
    let s := claimHeard 5 { zone := 0, power := 30, need := 55 } (sharing 2 180)
    let s := readZone 1 .claiming 1300 s
    let s := s.setGsu { s.gsu with claim := some { zone := 1, power := 25, need := 40, window := some 5059 } }
    let t := after .claimWindowExpiry s
    ((t.zone 1).state, t.gsu.claim, t.gsu.backOff, t.lnk.slotU) = (.want, none, some 5199, none) := by decide +kernel
/-- Node 5's window, with node 2's claim of age 61 out of view: 430 + 30 = 460 is granted. -/
theorem test_claim_granted :
    let s := claimHeard 2 { zone := 0, power := 25, need := 40 } (sharing 5 100)
    let s := readZone 1 .claiming 1300 s
    let s := setZone 0 { s.zone 0 with element := true } s
    let s := s.setCfg { s.cfg with committed := putItem s.cfg.committed 8 100 }
    let s := s.setGsu { s.gsu with claim := some { zone := 1, power := 30, need := 55, window := some 5061 } }
    let t := after .claimWindowExpiry s
    ((t.zone 1).state, (t.zone 1).element, t.gsu.ownDraw) = (.on, true, 130) := by decide +kernel
/-- The shed of 4.6 at node 3: it is chosen, Z3 being off Z0 is shed, and the draw falls to 110. -/
theorem test_shed :
    let s := sharing 3 150
    let w := putItem (putItem (putItem s.cfg.committed 8 40) 9 60) 10 50
    let s := s.setCfg { s.cfg with committed := w }
    let on (z : ZoneId) (s : State) : State := setZone z { s.zone z with state := .on, element := true } s
    let s := on 0 (on 1 (on 2 s))
    let s := writeDemand 2 { draw := 205, want := 0, need := 24, ready := true, mode := 1, node := 1 } s
    let t := after (.demandArrival 5 [0, 130, 0, 31, 1, 1, 1]) s
    (t.gsu.ownDraw, (t.zone 0).state, (t.zone 0).shedLock, t.gsu.holdOff, committedDraw t) =
      (110, .shed, some 15000, some 5200, 445) := by decide +kernel
/-- The need value of 4.1: a deficit of 2200 and a bonus of 50 are clamped to 255. -/
theorem test_need :
    let s := readZone 0 .want (-200) (base.setMsi { base.msi with lastCold := true })
    let c := { s.cfg with setpoints := #v[200, 140, 140, 140], committed := putItem s.cfg.committed 18 50 }
    needNow (s.setCfg c) = 255 := by decide +kernel

/-! ### Chapter 5 -/

/-- The duty law at its edges (5.10). -/
theorem test_duty_law :
    [10, 11, 35, 59, 60, 200].map (targetMagnitude Gains.default) = [0, 161, 415, 669, 680, 680] := by decide +kernel

/-- The GRADE node of 5.10: reference 4100, offset -5, heads 4125, 4131 and 4140, slew state 300 DOWN. -/
def gradeNode : State :=
  base.setLvc { base.lvc with
    mode := .grade, reference := some 4100, offset := -5, output := 300, slew := 300, cycleDue := 5000
    heads := #v[some (4125, 4990), some (4131, 4990), some (4140, 4990)] }

/-- Its average, error and output: 4132, +37 and 400 DOWN. -/
theorem test_grade_cycle :
    let t := after .levellingCycle gradeNode
    (average gradeNode, t.lvc.lastError, t.lvc.output) = (some 4132, 37, 400) := by decide +kernel
/-- With the middle head 160 ms old the average is 4133. -/
theorem test_two_heads :
    average (gradeNode.setLvc { gradeNode.lvc with heads := gradeNode.lvc.heads.set 1 (some (4131, 4840)) }) =
      some 4133 := by decide +kernel
/-- SLOPE on the right node: -3840 gives -38, -3850 gives -39, -3849 gives -38. -/
theorem test_slope_error :
    slopeErrorOf (some .right) 262 250 320 = -38 ∧ slopeErrorOf (some .left) 262 250 320 = 38 ∧
      roundAway (-3850) 100 = -39 ∧ roundAway (-3849) 100 = -38 := by decide +kernel
/-- The reversal of 5.10: 0, then 100, 200, 300, 400 and 447 UP. -/
theorem test_reversal :
    [400, 0, -100, -200, -300, -400].map (fun x => slewed 100 x (target Gains.default (-38))) =
      [0, -100, -200, -300, -400, -447] := by decide +kernel
/-- Clamping a gain set (5.9). -/
theorem test_gains :
    Gains.clamped { d := 60, p := 40, uMin := 600, uMax := 300, slew := 5 } =
      { d := 50, p := 55, uMin := 500, uMax := 500, slew := 10 } := by decide +kernel
/-- Travel leaving MOVING stops the valve at once (the stop for a truck). -/
theorem test_pause :
    let t := setTravelState .stopped gradeNode
    (t.lvc.output, t.lvc.slew, t.lvc.paused) = (0, 0, true) := by decide +kernel

/-! ### Chapter 6 -/

/-- The trial of 6.6 before its tenth cycle: two strikes, both slew states as after cycle 9. -/
def trialNode : State :=
  let g : Gains := { d := 10, p := 30, uMin := 200, uMax := 800, slew := 200 }
  base.setLvc { base.lvc with
    mode := .grade, reference := some 4158, output := -740, slew := -740, cycleDue := 5000
    heads := #v[some (4132, 4990), some (4132, 4990), some (4132, 4990)]
    trial := some { gains := g, w := 200, k := 3, strikes := 2, cycles := 9, guardSlew := -341, trialDuty := -740,
                    guardDuty := -341 } }

/-- Cycle 10: e = -26, the third strike; the capture of the manual, and the revert drives 320 UP. -/
theorem test_trial_window :
    let t := after .levellingCycle trialNode
    (t.lvc.trial, t.lvc.output, t.lvc.slew) = (none, -320, -320) ∧
      t.lvc.capture = some { reason := .window, cycles := 10, index := 0, error := -26, trialDuty := -680,
                             guardDuty := -320 } := by decide +kernel
/-- A broadcast LEVEL-MODE SLOPE is refused without a partner in GRADE. -/
theorem test_slope_refused : (levelMode .slope gradeNode).code = .refusedPartner := by decide +kernel
/-- A node in SLOPE whose partner shows SLOPE enters HOLD with reason PARTNER (6.3). -/
theorem test_partner_hold :
    let s := base.setLvc { base.lvc with mode := .slope, output := 90, slew := 90 }
    let t := after (.levelStatusArrival 7 [2, 3, 0, 0, 0, 0, 1, 0]) s
    (t.lvc.mode, t.lvc.output, t.alr.present) = (.hold .partner, 0, 8) := by decide +kernel

/-! ### Chapter 7 -/

/-- The level law of the example of 7.3. -/
theorem test_level_law :
    [520, 500, 499, 430, 301, 300].map (levelLaw 500 200 100) = [100, 100, 105, 415, 996, 1000] := by decide +kernel
/-- The auger duties beside them. -/
theorem test_auger : [100, 105, 415, 996, 1000].map (augerDuty 1200) = [120, 126, 498, 1000, 1000] := by decide +kernel

/-- The feed node of the truck exchange of 7.5 at level `l`. -/
def feedNode (l : Int) (since : Option Time) : State :=
  (base.setNow 13000).setFdc { base.fdc with
    mode := .auto, phase := some .feeding, level := some (l, 12990), starveSince := since, evalDue := 13000 }

/-- At 8.0 s the starve time has run: starved, conveyor 1000, source 6 present. -/
theorem test_starved :
    let t := after (.feedEvaluation false) (feedNode 110 (some 5000))
    (t.fdc.starved, t.fdc.conveyor, t.fdc.starveSince, t.alr.present) = (true, 1000, none, 32) := by decide +kernel
/-- Travel MOVING to STOPPED starts a run-on of 5 s. -/
theorem test_run_on :
    let t := setTravelState .stopped (feedNode 110 none)
    (t.fdc.phase, t.fdc.runOn) = (some .runOn, some 18000) := by decide +kernel

/-! ### Chapter 8 -/

/-- A lane with a count, a sum and one reading as its minimum and maximum. -/
def lane (count : Nat) (sum lo hi : Int) : Lane := { count := count, sum := sum, min := some lo, max := some hi }

/-- The closed interval 171 of 8.8. -/
def interval171 : State :=
  let lanes : Vector Lane 12 := #v[lane 25 30125 1200 1210, lane 25 33210 1300 1350, lane 25 34000 1300 1400,
    lane 25 34480 1300 1400, lane 24 33264 1300 1400, lane 25 35100 1300 1468, lane 25 27370 1000 1100,
    lane 25 27375 1000 1100, Lane.empty, lane 25 34875 1300 1400, lane 25 32000 1200 1300, lane 25 26000 985 1100]
  { base with
    now := 2981650
    cfg := { geometryCfg with straps := { baseStraps with bay := 1 }, width := 2150 }
    msi := { base.msi with
      accumulating := true, openIndex := 171, lanes := lanes, flags := bit 2, jobStart := some 1204300 }
    trv := { base.trv with jobOpen := true }
    ring := { base.ring with nextSeq := 5120, held := 4096, job := 3 } }

/-- The lane means. -/
theorem test_lane_means :
    laneMeans interval171.msi = [121, 133, 136, 138, 139, 140, 109, 110, 255, 140, 128, 104] := by decide +kernel
/-- The record's 33 bytes by the layout of 11.9. -/
theorem test_record :
    buildRecord 1 interval171 = [0, 20, 0, 0, 0, 171, 1, 3, 1, 0, 215, 121, 133, 136, 138, 139, 140, 109, 110, 255, 140,
      128, 104, 99, 147, 8, 64, 0, 4, 0, 0, 69, 109] := by decide +kernel
/-- Its COLD-SPOT: lanes 6 and 11, coldest mean 104. -/
theorem test_cold_spot :
    coldSpotNow interval171 = { bay := 1, interval := 171, cold := 0x840, coldest := 104 } := by decide +kernel
/-- The close opens interval 172 with empty accumulators and sets the last-record-cold flag. -/
theorem test_close :
    let t := handIndex 172 interval171
    (t.msi.openIndex, t.msi.lastCold, t.ring.nextSeq, t.ring.overwritten, laneMeans t.msi) =
      (172, true, 5121, 1, List.replicate 12 255) := by decide +kernel

/-! ### Chapter 9 -/

/-- The full ring of 9.7. -/
def fullRing : State := base.setRing { base.ring with nextSeq := 10000, held := 4096 }

/-- The OPEN of the worked sequence: DONE, and H0 moves into the empty slot B. -/
theorem test_open :
    let a := actReadout 9 [1, 1, 0, 0, 23, 12, 0, 8, 2, 2] fullRing
    (a.code, (a.state.channel 1).headersLeft, a.content) = (.done, 1, .opened 1 5900 5904 10000 4096) :=
        by decide +kernel
/-- Step 4: four lost records go out as one VOID from 5900 to 5903. -/
theorem test_lapped :
    let c := { (openedChannel 9 5900 8 2 2) with state := .records }
    let r := formFrame 1 (setChannel 1 c fullRing)
    (r.2, (r.1.channel 1).next, (r.1.channel 1).remaining, (r.1.channel 1).voidsSent) =
      (.void .lapped 5900 5903, 5904, 4, 4) := by decide +kernel
/-- Seq 5906 and seq 10001 stand in slots 1810 and 1809. -/
theorem test_slots : (slotOf 5906, slotOf 10001) = (1810, 1809) := by decide +kernel
/-- A written record reads back with its parity; under an armed test it does not (R169). -/
theorem test_parity :
    parityHolds (storedSlot 3 [1, 2, 7, 255] false) = true ∧ parityHolds (storedSlot 3 [1, 2, 7, 255] true) = false :=
        by decide +kernel

/-! ### Chapter 10 -/

/-- Counter 2 counts event 21 with threshold 5; alert sources 2, 7 and 11 are enabled (10.6). -/
def counting (value : Nat) : State :=
  let c : Counter := { selection := 21, value := value, threshold := 5, capture := none }
  (setCounter 2 c (base.setAlr { present := 2, mask := 0x442 })).setTrv { base.trv with index := 2401 }

/-- Step d: four records bring the value to 4, short of the threshold. -/
theorem test_counted :
    let t := countBy .voidSent 1 4 (counting 0)
    ((t.counter 2).value, (t.counter 2).capture, t.lnk.slotU) = (4, none, none) := by decide +kernel
/-- Step e: the threshold, the capture, source 11 and its ALERT frame. -/
theorem test_threshold :
    let t := countBy .voidSent 1 1 (counting 4)
    ((t.counter 2).capture, t.alr.present, t.lnk.slotU.map (·.body)) =
      (some { counter := 2, event := 21, time := 5000, index := 2401, item := 1 }, 0x402,
        some (.alert { source := 11, present := 0x402, mask := 0x442 })) := by decide +kernel
/-- Step h: the highest of {7, 11} is 7. -/
theorem test_highest : highestAlert { present := 0x440, mask := 0x442 } = 7 := by decide +kernel
/-- Step j: an ACK of {7, 11} removes only the latched source. -/
theorem test_ack : (alertAck 0x440 (base.setAlr { present := 0x440, mask := 0x442 })).state.alr.present = 0x40 :=
    by decide +kernel

/-! ### Chapter 11 -/

/-- The tally of 11.3 stands at 127 when the fourth error falls: 135, LISTEN-ONLY, everything discarded. -/
theorem test_listen_only :
    let f : Frame := { dst := 12, tag := 0, body := .reply .done .empty, resets := false }
    let s := base.setLnk { base.lnk with tally := 127, slotU := some f, sending := some .u }
    let t := after .transmitError s
    (t.lnk.tally, t.lnk.listenUntil, t.lnk.slotU, t.alr.present) = (135, some 7000, none, 0x100) := by decide +kernel
/-- Its end: tally 64, a DEMAND in slot P. -/
theorem test_active_again :
    let s := (base.setLnk { base.lnk with tally := 135, listenUntil := some 7000 }).setAlr
        { present := 0x100, mask := 0 }
    let t := after .listenOnlyTimerExpiry s
    (t.lnk.tally, t.lnk.slotP.isSome, t.alr.present, t.now) = (64, true, 0, 7000) := by decide +kernel
/-- A full U list drops a HEAT-SET (11.6). -/
theorem test_dropped :
    let f : Frame := { dst := 12, tag := 0, body := .reply .done .empty, resets := false }
    let s := base.setLnk { base.lnk with slotU := some f, uList := [f, f, f, f] }
    let s := setCounter 0 { selection := 7, value := 0, threshold := 0, capture := none } s
    let t := after (.heatSetOff 12 5 [1, 0, 0, 0, 0, 0, 0, 0, 0]) s
    ((t.counter 0).value, t.cfg.heatMode, t.lnk.uList.length) = (1, .on, 4) := by decide +kernel
/-- IDENT-READ is answered DONE with part code 40 in slot U, to its source and with its tag. -/
theorem test_ident :
    ((after (.identRead 12 77 []) base).lnk.slotU.map fun f => (f.dst, f.tag, f.body)) =
      some (12, 77, .reply .done (.ident (identNow base))) ∧ (identNow base).part = 40 := by decide +kernel
/-- An unassigned class is answered UNKNOWN. -/
theorem test_unknown :
    ((after (.unassignedRequest 50 12 1 [3]) base).lnk.slotU.map (·.body)) = some (.reply .unknown .empty) :=
        by decide +kernel
/-- The first bits of a CLAIM of bay 5 to all: class 4, source 5, destination 15 (11.9). -/
theorem test_frame_bits :
    (frameBits 4 5 15 0 []).take 14 =
      [false, false, false, true, false, false, false, true, false, true, true, true, true, true] := by decide +kernel
/-- The queue's front is run, and an empty queue passes one millisecond. -/
theorem test_step :
    step (base.setPending [.lineIdle]) = exec .lineIdle base ∧ (step base = .next (base.setNow 5001)) := ⟨rfl, rfl⟩

/-! ### States and operands that meet the hypotheses of the statements -/

/-- The laws of the ring hold at reset. -/
theorem reset_ringLaw : RingLaw State.reset.ring := by
  refine ⟨by decide +kernel, by decide +kernel, ?_⟩
  intro q hq
  simp [Ring.holds, State.reset, Ring.reset] at hq
  omega

def st_TravelTimerLosesTravel_1_base : State :=
  let s := base
  s.setTrv { s.trv with
    state := if s.trv.state = .unknown then .stopped else s.trv.state, last := s.trv.last.map fun x => { x with
        time := some (s.now - 501) } }

def st_TravelFrameAdvancesJob_1_base : State :=
  let s := base
  s.setTrv { s.trv with
    jobOpen := true, state := s.trv.state, jobBase := some (100, 100), last := some {
        src := 14, left := 350, right := 340, seq := some 1, time := some s.now } }

def st_ZoneFollowsReading_1_base : State :=
  base.setCfg { base.cfg with heatMode := if base.cfg.heatMode = .off then .on else base.cfg.heatMode }

def st_HeatSetAndStandbyTimerAct_4_base : State :=
  base.setEvc { counters := #v[⟨9, 0, 1, none⟩, ⟨5, 3, 4, none⟩, ⟨11, 0, 1, none⟩, ⟨9, 0, 0, none⟩] }

def st_FeedEvaluationFormsDuties_2_base : State :=
  base.setCfg { base.cfg with feedSetpoint := 500, straps := { base.cfg.straps with feed := some .right } }

def st_LevelModeChangesMode_1_base : State :=
  base.setCfg { base.cfg with straps := { base.cfg.straps with lev := some .left } }

def st_FeedRequestsAct_1_base : State :=
  base.setCfg { base.cfg with straps := { base.cfg.straps with feed := some .left } }

def st_LevellingCycleDrivesPausesOrHolds_2_base : State :=
  let s := base
  let s := setEntry 9 { s.entry 9 with
      level := some ({ side := 2, mode := 2, error := 0, duty := 0, refValid := true, trial := false }, s.now) } (
      s.setPtb Ptb.reset)
  s.setCfg { s.cfg with straps := { s.cfg.straps with lev := some .left } }

def st_FrameCarriedInFourSteps_2_base : State :=
  let s := base
  let s := takes (s.setRdu Rdu.reset)
  s.setLnk { s.lnk with
    slotU := some { dst := 15, tag := 0, resets := false, body := .claim { zone := 1, power := 30, need := 5 } },
    sending := some .u, pList := s.lnk.pList, uList := [] }

def st_BroadcastArrivalsActOnBlocks_5_base : State :=
  let s := base
  let s := s.setPtb { s.ptb with entries := Ptb.reset.entries }
  s.setCfg { s.cfg with straps := { s.cfg.straps with lev := some .left, feed := some .left } }

def st_LevelModeChangesMode_5_base : State :=
  let s := st_LevelModeChangesMode_1_base
  s.setPtb { Ptb.reset with scanDue := s.now }

def st_ReadoutRequestsAct_1_base : State :=
  let s := base
  let s := s.setLnk { s.lnk with slotB := some { dst := 9, tag := 0, resets := false, body := .void .lapped 1 2 } }
  s.setRing { s.ring with held := 5, nextSeq := s.ring.nextSeq + 5 }

def st_ClaimWindowGrantsOrWithdraws_1_base : State :=
  let s := base
  let s := s.setCfg { s.cfg with heatMode := .on }
  let s := if decide (HeatLaw s) then s else (s.setZht (Zht.reset s.now)).setGsu (Gsu.reset s.now)
  setZone 2 { s.zone 2 with state := .claiming, element := false } (
    mapZones (fun x => if x.state = .claiming then { x with state := .want } else x) s)

def st_BackOffAndHoldOffEnd_3_base : State :=
  let s := st_HeatSetAndStandbyTimerAct_4_base
  let s := s.setCfg { s.cfg with heatMode := .on, committed := putItem s.cfg.committed 12 20 }
  recomputeDraw (
    setZone 2 { s.zone 2 with state := .on, element := true } (setZone 1 { s.zone 1 with state := .claiming } s))

def st_LevellingCycleDrivesPausesOrHolds_2_base2 : State :=
  let s := st_LevellingCycleDrivesPausesOrHolds_2_base
  s.setTrv { s.trv with state := .moving }

def st_LevellingCycleDrivesPausesOrHolds_4_base : State :=
  let s := st_LevellingCycleDrivesPausesOrHolds_2_base
  s.setTrv { s.trv with state := .stopped }

def st_ChannelStepFormsFrame_1_base : State :=
  let s := base
  let s := s.setRdu { s.rdu with channels := s.rdu.channels.set 0 Channel.reset }
  let s := s.setLnk { s.lnk with
      slotB := some { dst := 9, tag := 0, resets := false, body := .void .lapped 1 2 }, sending := some .b }
  s.setRing { s.ring with
    nextSeq := 4100, held := 5, slots := [
        storedSlot 0 (List.replicate 33 9) false, storedSlot 1 (List.replicate 33 9) false, storedSlot 2 (
            List.replicate 33 9) false,
        storedSlot 3 (List.replicate 33 9) false, storedSlot 4095 (List.replicate 33 9) false] }

def st_JobStartAndEnd_1_base : State :=
  let s := base
  let s := s.setLnk { s.lnk with slotB := none }
  let s := s.setMck { s.mck with armed := false }
  s.setEvc { counters := #v[⟨21, 0, 1, none⟩, ⟨22, 0, 1, none⟩, ⟨19, 3, 9, none⟩, ⟨5, 9, 4, none⟩] }

def st_LevellingCycleDrivesPausesOrHolds_7_base : State :=
  let s := st_LevellingCycleDrivesPausesOrHolds_2_base2
  s.setLvc { s.lvc with
    mode := .slope, cycleDue := s.now + 20, heads := #v[some (4100, s.now), some (4150, s.now), none], incl := some (
        20, s.now),
    reference := some 4090, offset := 0, slope := 30, trial := none, gains := {
        d := 10, p := 60, uMin := 150, uMax := 680, slew := 100 },
    slew := 0, satRun := 0 }

def st_StepRunsFront_1 : State :=
  base.setPending [.lineIdle]

def st_IdleStepPassesOneMillisecond_1 : State :=
  base.setPending []

def st_ResetLineHoldsEveryBlock_1 : State :=
  base.setResetLine true

def st_HeatLawKept_2 : State :=
  let s := base
  let s := setZone 2 { s.zone 2 with state := .claiming, element := false } s
  let s := s.setGsu { s.gsu with claim := some { zone := 2, power := 30, need := 9, window := some (s.now + 5) } }
  s.setCfg { s.cfg with committed := putItem (putItem s.cfg.committed 13 20) 12 900 }

def st_WarmResetOfSoundAndDamaged_1 : State :=
  let s := base
  let s := s.setHaltInput false
  s.setCfg { s.cfg with valid := true, check := checkValue s.cfg.committed (readStraps s.pins) }

def st_WarmResetOfSoundAndDamaged_2 : State :=
  base.setCfg { base.cfg with valid := false }

def st_WarmResetOfSoundAndDamaged_3 : State :=
  let s := base
  let s := s.setHaltInput true
  s.setCfg { s.cfg with valid := true, check := checkValue s.cfg.committed (readStraps s.pins) }

def st_HaltInputMovesRunToHalt_1 : State :=
  lawful base

def st_HaltInputMovesRunToHalt_2 : State :=
  setNode .setup base

def st_HaltInputMovesRunToHalt_3 : State :=
  base.setResetLine false

def st_ExtensionMovesWidthAndCentre_1 : State :=
  let s := base
  s.setCfg { s.cfg with
    straps := { s.cfg.straps with ext := true }, committed := putItem (putItem s.cfg.committed 4 77) 3 251 }

def st_NodeResetAnswersThenResets_3 : State :=
  base.setLnk { base.lnk with resetPending := some 3 }

def st_NodeResetAnswersThenResets_4 : State :=
  base.setLnk { base.lnk with resetPending := some base.now }

def st_NodeResetAnswersThenResets_5 : State :=
  base.setLnk { base.lnk with resetPending := none }

def st_ConfigCommitChecksThenRuns_1 : State :=
  let s := st_HaltInputMovesRunToHalt_2
  s.setCfg { s.cfg with working := putItem s.cfg.working 1 0 }

def st_ConfigCommitChecksThenRuns_2 : State :=
  let s := st_HaltInputMovesRunToHalt_2
  let s := s.setHaltInput false
  (
    s.setCfg { s.cfg with
        working := putItem (putItem (putItem s.cfg.working 1 2) 4 33) 5 (-200), committed :=
            defaultItems }).setGsu { s.gsu with
    reported := { s.gsu.reported with node := .setup } }

def st_ConfigCommitChecksThenRuns_3 : State :=
  let s := st_ConfigCommitChecksThenRuns_2
  let s := s.setEvc { counters := #v[⟨21, 0, 1, none⟩, ⟨22, 0, 1, none⟩, ⟨19, 3, 9, none⟩, ⟨5, 9, 4, none⟩] }
  let s := s.setMck { s.mck with armed := (2 < 3) }
  (
    s.setMsi { s.msi with
        accumulating := true, openIndex := 3, lastCold := false, lanes :=
            s.msi.lanes.set 1 (Lane.empty.add 700) }).setTrv { s.trv with
    jobOpen := true, index := 204 } |>.setLnk { s.lnk with
    slotB := (some powerUpDemand), slotP := none, pList := [] }

def st_ConfigCommitChecksThenRuns_4 : State :=
  let s := base
  (
    let s := setNode .setup s; let s := s.setHaltInput false; (
        s.setCfg { s.cfg with
            working := putItem (putItem (putItem s.cfg.working 1 2) 4 33) 5 (-200), committed :=
                defaultItems }).setGsu { s.gsu with
        reported := { s.gsu.reported with node := .setup } }).setHaltInput true

def st_ConfigCommitChecksThenRuns_5 : State :=
  let s := st_ConfigCommitChecksThenRuns_3
  s.setHaltInput true

def st_NodeResumeLeavesHalt_1 : State :=
  let s := base
  let s := (setNode .halt s).setHaltInput false
  s.setGsu { s.gsu with reported := { s.gsu.reported with node := .halt } }

def st_NodeResumeLeavesHalt_2 : State :=
  (setNode .halt base).setHaltInput true

def st_NodeResumeLeavesHalt_3 : State :=
  setNode .halt base

def st_AgeingScanDropsOldParts_2 : State :=
  let s := base
  let s := s.setLnk { s.lnk with slotB := some powerUpDemand }
  setEntry 5 { s.entry 5 with
    heating := some ({ draw := 1, want := 0, need := 0, ready := true, mode := 1, node := 1 }, s.now - 5001) } s

def st_AgeingScanDropsOldParts_3 : State :=
  let s := base
  let s := s.setLnk { s.lnk with slotB := some powerUpDemand }
  setChannel 2 { s.channel 2 with state := .wait, owner := some 9 } (
    setEntry 9 { s.entry 9 with heard := true, silent := false, lastTime := some (s.now - 5001) } s)

def st_AgeingScanDropsOldParts_4 : State :=
  let s := base
  let s := setEntry 9 { s.entry 9 with heard := true, silent := false, lastTime := some (s.now - 5001) } s
  setEntry 5 { s.entry 5 with
    heard := true, lastTime := some (s.now - 9), heating := (
        some ({ draw := 1, want := 0, need := 0, ready := true, mode := 1, node := 1 }, s.now - 5001)),
    level := some ({ side := 1, mode := 2, error := 0, duty := 0, refValid := true, trial := false }, s.now - 301) } s

def st_AgeingScanDropsOldParts_5 : State :=
  let s := st_AgeingScanDropsOldParts_4
  let s := setChannel 1 { Channel.reset with state := .wait, owner := some 5 } s
  setEntry 5 { s.entry 5 with silent := false, lastTime := some s.now } s

def st_AgeingScanDropsOldParts_6 : State :=
  let s := base
  let s := s.setLnk { s.lnk with slotB := none, listenUntil := none }
  let s := s.setRdu {
      channels := #v[
          Channel.reset, { Channel.reset with state := .wait, owner := some 11 }, { Channel.reset with
              state := .wait, owner := some 9, recordsSent := 5, cyclic := true },
          { Channel.reset with state := .wait, owner := some 15 }] }
  let s := setEntry 9 { s.entry 9 with heard := true, silent := false, lastTime := some (s.now - 5001) } s
  setEntry 11 { s.entry 11 with heard := true, silent := true, lastTime := some (s.now - 5001) } s

def st_TravelTimerLosesTravel_1 : State :=
  let s := st_TravelTimerLosesTravel_1_base
  let s := s.setLvc { s.lvc with mode := .grade }
  let s := s.setEvc { counters := #v[⟨24, 0, 1, none⟩, ⟨15, 0, 1, none⟩, ⟨24, 3, 9, none⟩, ⟨15, 9, 4, none⟩] }
  (s.setTrv { s.trv with jobOpen := true }).setMsi { s.msi with accumulating := true } |>.setCfg { s.cfg with
    heatMode := .on, committed := s.cfg.committed }

def st_TravelTimerLosesTravel_2 : State :=
  let s := st_TravelTimerLosesTravel_1_base
  (s.setLvc { s.lvc with mode := .manual }).setFdc { s.fdc with mode := .manual } |>.setCfg { s.cfg with
    heatMode := .off }

def st_TravelTimerLosesTravel_3 : State :=
  let s := st_TravelTimerLosesTravel_1_base
  s.setLvc { s.lvc with mode := .grade }

def st_TravelTimerLosesTravel_4 : State :=
  let s := st_TravelTimerLosesTravel_1_base
  (s.setTrv { s.trv with state := .moving }).setFdc { s.fdc with mode := .auto, phase := some .feeding }

def st_TravelTimerLosesTravel_5 : State :=
  let s := st_TravelTimerLosesTravel_1_base
  (s.setTrv { s.trv with state := .reversing }).setCfg { s.cfg with heatMode := .on, committed := s.cfg.committed}

def st_TravelFrameMovesTravel_1 : State :=
  let s := base
  s.setTrv { s.trv with last := some { src := 14, left := 350, right := 340, seq := some 9, time := some s.now } }

def st_TravelFrameMovesTravel_2 : State :=
  let s := base
  s.setTrv { s.trv with
    last := some { src := 14, left := 9000, right := 340, seq := none, time := none }, jobOpen := false, motion := [],
    state := .unknown }

def st_TravelFrameMovesTravel_3 : State :=
  let s := base
  s.setTrv { s.trv with
    jobOpen := false, state := s.trv.state, jobBase := some (100, 100), last := some {
        src := 14, left := 350, right := 340, seq := some 1, time := some s.now } }

def st_TravelFrameAdvancesJob_1 : State :=
  let s := st_TravelFrameAdvancesJob_1_base
  s.setMsi { s.msi with accumulating := true, openIndex := 0 }

def st_TravelFrameAdvancesJob_2 : State :=
  let s := st_TravelFrameAdvancesJob_1_base
  s.setMsi { s.msi with accumulating := true, openIndex := s.trv.index }

def st_InvalidSampleFaultsZone_1 : State :=
  if decide (HeatLaw base) then base else (base.setZht (Zht.reset base.now)).setGsu (Gsu.reset base.now)

def st_ZoneFollowsReading_1 : State :=
  let s := st_ZoneFollowsReading_1_base
  recomputeDraw (setZone 1 { s.zone 1 with state := .want, element := false } s)

def st_ZoneFollowsReading_2 : State :=
  let s := st_ZoneFollowsReading_1_base
  let s := recomputeDraw (setZone 1 { s.zone 1 with state := .claiming, element := false } s)
  s.setGsu { s.gsu with claim := some { zone := 1, power := 30, need := 4, window := none } }

def st_ZoneFollowsReading_3 : State :=
  let s := st_ZoneFollowsReading_1_base
  recomputeDraw (setZone 1 { s.zone 1 with state := .on, element := true, lowCount := 2 } s)

def st_ZoneFollowsReading_4 : State :=
  let s := st_ZoneFollowsReading_1_base
  recomputeDraw (setZone 1 { s.zone 1 with state := .shed, element := false, shedLock := some (s.now + 0) } s)

def st_ZoneFollowsReading_5 : State :=
  let s := st_ZoneFollowsReading_1_base
  recomputeDraw (setZone 1 { s.zone 1 with state := .overtemp, element := false } s)

def st_ZoneFollowsReading_6 : State :=
  let s := st_ZoneFollowsReading_1_base
  recomputeDraw (setZone 1 { s.zone 1 with state := .fault, element := false } s)

def st_ZoneFollowsReading_7 : State :=
  let s := st_NodeResumeLeavesHalt_3
  setZone 1 { s.zone 1 with state := .off, latch := false } s

def st_OfferMakesClaimAndReadyIsJudged_1 : State :=
  let s := base
  let s := s.setCfg { s.cfg with heatMode := .on }
  let s := s.setZht { Zht.reset s.now with
      zones := (Zht.reset s.now).zones.set 1 { Zone.reset s.now with state := .want } }
  (s.setGsu { Gsu.reset s.now with lastCarried := some (s.now - 4000) }).setPtb { Ptb.reset with scanDue := s.now }
      |>.setLnk { Lnk.reset with
    slotU := some powerUpDemand }

def st_OfferMakesClaimAndReadyIsJudged_2 : State :=
  setZone 1 { base.zone 1 with state := .idle } base

def st_OfferMakesClaimAndReadyIsJudged_3 : State :=
  let s := base
  let s := s.setCfg { s.cfg with heatMode := .on, setpoints := #v[140,140,140,140] }
  let s := s.setZht { s.zht with
      readyStart := some (s.now - 60000), zones := s.zht.zones.map fun x => { x with
          reading := some 1390, state := if x.state = .claiming then .idle else x.state } }
  setZone 1 { s.zone 1 with state := .idle } s

def st_HeatSetAndStandbyTimerAct_4 : State :=
  let s := st_HeatSetAndStandbyTimerAct_4_base
  s.setGsu { s.gsu with claim := some { zone := 2, power := 30, need := 9, window := none } }

def st_HeatSetAndStandbyTimerAct_7 : State :=
  base.setZht { base.zht with standbySince := some (base.now - 40) }

def st_HeatSetAndStandbyTimerAct_8 : State :=
  base.setZht { base.zht with standbySince := none }

def st_ClaimWindowGrantsOrWithdraws_1 : State :=
  let s := st_ClaimWindowGrantsOrWithdraws_1_base
  recomputeDraw (
    (s.setGsu { s.gsu with claim := some { zone := 2, power := s.power 2, need := 9,
                                           window := some (s.now + 5) } })) |>.setCfg { s.cfg with
    committed := putItem (putItem s.cfg.committed 13 20) 12 900 }

def st_ClaimWindowGrantsOrWithdraws_2 : State :=
  let s := st_ClaimWindowGrantsOrWithdraws_1_base
  recomputeDraw (
    (s.setGsu { s.gsu with claim := some { zone := 2, power := s.power 2, need := 9,
                                           window := some (s.now + 5) } })) |>.setCfg { s.cfg with
    committed := putItem (putItem s.cfg.committed 13 20) 12 40 }

def st_ClaimWindowGrantsOrWithdraws_3 : State :=
  base.setGsu { base.gsu with claim := none }

def st_BackOffAndHoldOffEnd_1 : State :=
  base.setGsu { base.gsu with backOff := some (base.now + 3) }

def st_BackOffAndHoldOffEnd_2 : State :=
  base.setGsu { base.gsu with backOff := none }

def st_BackOffAndHoldOffEnd_3 : State :=
  let s := st_BackOffAndHoldOffEnd_3_base
  (
    s.setGsu { s.gsu with
        claim := (some { zone := 1, power := 30, need := 9, window := none }), holdOff :=
            some (s.now + 7) }).setPtb { Ptb.reset with
    scanDue := s.now }

def st_BackOffAndHoldOffEnd_4 : State :=
  base.setGsu { base.gsu with holdOff := some (base.now + 7) }

def st_BackOffAndHoldOffEnd_5 : State :=
  base.setGsu { base.gsu with holdOff := none }

def st_DemandTimersAct_2 : State :=
  base.setLnk { base.lnk with listenUntil := some 7 }

def st_DemandTimersAct_3 : State :=
  base.setGsu { base.gsu with lastCarried := some (base.now - 4000) }

def st_DemandTimersAct_4 : State :=
  base.setGsu { base.gsu with lastCarried := none }

def st_SensorReadingsAreStored_1 : State :=
  base.setCfg { base.cfg with straps := { base.cfg.straps with lev := some .left, feed := some .right } }

def st_LevellingCycleDrivesPausesOrHolds_1 : State :=
  base.setLvc { base.lvc with mode := .manual }

def st_LevellingCycleDrivesPausesOrHolds_2 : State :=
  let s := st_LevellingCycleDrivesPausesOrHolds_2_base2
  s.setLvc { s.lvc with
    mode := .grade, heads := #v[some (4100, s.now), some (4150, s.now), none], incl := some (20, s.now),
    reference := some 4090, offset := 0, slope := 30, trial := none, gains := {
        d := 10, p := 60, uMin := 150, uMax := 680, slew := 100 },
    slew := 0, satRun := 0, cycleDue := s.now + 151 }

def st_LevellingCycleDrivesPausesOrHolds_3 : State :=
  let s := st_LevellingCycleDrivesPausesOrHolds_2_base2
  s.setLvc { s.lvc with
    mode := .grade, cycleDue := s.now + 20, heads := #v[some (4100, s.now), some (4150, s.now), none], incl := some (
        20, s.now),
    reference := some 4090, offset := 0, slope := 30, trial := none, gains := {
        d := 10, p := 60, uMin := 150, uMax := 680, slew := 100 },
    slew := 0, satRun := 0 }

def st_LevellingCycleDrivesPausesOrHolds_4 : State :=
  let s := st_LevellingCycleDrivesPausesOrHolds_4_base
  s.setLvc { s.lvc with
    mode := .grade, cycleDue := s.now + 20, heads := #v[some (4100, s.now), some (4150, s.now), none], incl := some (
        20, s.now),
    reference := some 4090, offset := 0, slope := 30, trial := none, gains := {
        d := 10, p := 60, uMin := 150, uMax := 680, slew := 100 },
    slew := 0, satRun := 0 }

def st_LevellingCycleDrivesPausesOrHolds_7 : State :=
  let s := st_LevellingCycleDrivesPausesOrHolds_7_base
  s.setCfg { s.cfg with straps := { s.cfg.straps with lev := some .left} }

def st_TrialCycleDrivesTrialBesideGuard_1 : State :=
  let s := st_LevellingCycleDrivesPausesOrHolds_2_base2
  s.setLvc { s.lvc with
    mode := .grade, cycleDue := s.now + 20, heads := #v[some (4100, s.now), some (4150, s.now), none], incl := some (
        20, s.now),
    reference := some 4090, offset := 0, slope := 30, trial := some {
        gains := { d := 5, p := 40, uMin := 100, uMax := 500, slew := 10 }, w := 100, k := 4, strikes := 0,
        cycles := 65535 - 2, guardSlew := 0, trialDuty := 0, guardDuty := 0 },
    gains := { d := 10, p := 60, uMin := 150, uMax := 680, slew := 100 }, slew := 0, satRun := 0 }

def st_TrialCycleDrivesTrialBesideGuard_2 : State :=
  let s := st_LevellingCycleDrivesPausesOrHolds_2_base2
  s.setLvc { s.lvc with
    mode := .grade, cycleDue := s.now + 20, heads := #v[some (4100, s.now), some (4150, s.now), none], incl := some (
        20, s.now),
    reference := some 4090, offset := 0, slope := 30, trial := some {
        gains := { d := 5, p := 40, uMin := 100, uMax := 500, slew := 10 }, w := 50, k := 4, strikes := 0,
        cycles := 65535 - 2, guardSlew := 0, trialDuty := 0, guardDuty := 0 },
    gains := { d := 10, p := 60, uMin := 150, uMax := 680, slew := 100 }, slew := 0, satRun := 0 }

def st_TrialCycleDrivesTrialBesideGuard_3 : State :=
  let s := st_LevellingCycleDrivesPausesOrHolds_2_base2
  s.setLvc { s.lvc with
    mode := .grade, cycleDue := s.now + 20, heads := #v[some (4100, s.now), some (4150, s.now), none], incl := some (
        20, s.now),
    reference := some 4090, offset := 0, slope := 30, paused := false, trial := some {
        gains := { d := 5, p := 40, uMin := 100, uMax := 500, slew := 10 }, w := 50, k := 4, strikes := 3,
        cycles := 65535 - 2, guardSlew := 0, trialDuty := 0, guardDuty := 0 },
    gains := { d := 10, p := 60, uMin := 150, uMax := 680, slew := 100 }, slew := 0, satRun := 0 }

def st_TrialCycleDrivesTrialBesideGuard_4 : State :=
  let s := st_LevellingCycleDrivesPausesOrHolds_4_base
  s.setLvc { s.lvc with
    mode := .grade, cycleDue := s.now + 20, heads := #v[some (4100, s.now), some (4150, s.now), none], incl := some (
        20, s.now),
    reference := some 4090, offset := 0, slope := 30, trial := some {
        gains := { d := 5, p := 40, uMin := 100, uMax := 500, slew := 10 }, w := 50, k := 4, strikes := 0,
        cycles := 65535 - 2, guardSlew := 0, trialDuty := 0, guardDuty := 0 },
    gains := { d := 10, p := 60, uMin := 150, uMax := 680, slew := 100 }, slew := 0, satRun := 0 }

def st_WatchAndJogEnd_1 : State :=
  let s := st_LevellingCycleDrivesPausesOrHolds_7_base
  s.setLvc { s.lvc with partnerWatch := some (s.now + 301), cycleDue := s.now + 20, jog := none }

def st_WatchAndJogEnd_2 : State :=
  let s := st_LevellingCycleDrivesPausesOrHolds_7_base
  s.setLvc { s.lvc with partnerWatch := some (s.now + 4), cycleDue := s.now + 20, jog := none }

def st_WatchAndJogEnd_3 : State :=
  base.setLvc { base.lvc with partnerWatch := none }

def st_WatchAndJogEnd_4 : State :=
  let s := base
  s.setLvc { s.lvc with mode := .manual, output := -300, jog := some { duty := -300, endTime := s.now + 40 } }

def st_WatchAndJogEnd_5 : State :=
  base.setLvc { base.lvc with jog := none }

def st_StatusTimersQueueStatus_1 : State :=
  let s := base
  takes (s.setCfg { s.cfg with straps := { s.cfg.straps with lev := some .left, feed := some .right } })

def st_StatusTimersQueueStatus_2 : State :=
  let s := st_SensorReadingsAreStored_1
  s.setLnk { s.lnk with listenUntil := some 7 }

def st_StatusTimersQueueStatus_3 : State :=
  base.setCfg { base.cfg with straps := { base.cfg.straps with lev := none } }

def st_StatusTimersQueueStatus_6 : State :=
  base.setCfg { base.cfg with straps := { base.cfg.straps with feed := none } }

def st_FeedEvaluationFormsDuties_2 : State :=
  let s := st_FeedEvaluationFormsDuties_2_base
  s.setFdc { s.fdc with
    mode := .off, phase := none, evalDue := s.now + 10, starved := false, starveSince := none, conveyor := 1000,
    level := none }

def st_FeedEvaluationFormsDuties_3 : State :=
  let s := st_FeedEvaluationFormsDuties_2_base
  s.setFdc { s.fdc with
    mode := .manual, phase := none, evalDue := s.now + 10, starved := false, starveSince := none, conveyor := 1000,
    level := none }

def st_FeedEvaluationFormsDuties_4 : State :=
  let s := st_FeedEvaluationFormsDuties_2_base
  s.setFdc { s.fdc with
    mode := .auto, phase := (some .feeding), evalDue := s.now + 10, starved := false, starveSince := none,
    conveyor := 1000, level := none }

def st_FeedEvaluationFormsDuties_5 : State :=
  let s := st_FeedEvaluationFormsDuties_2_base
  s.setFdc { s.fdc with
    mode := .auto, phase := some .runOn, evalDue := s.now + 10, starved := false, starveSince := none,
    conveyor := 1000, level := none }

def st_FeedEvaluationFormsDuties_6 : State :=
  let s := st_FeedEvaluationFormsDuties_2_base
  s.setFdc { s.fdc with
    mode := .auto, phase := some .idle, evalDue := s.now + 10, starved := false, starveSince := none,
    conveyor := 1000, level := none }

def st_FeedEvaluationFormsDuties_7 : State :=
  let s := base
  s.setFdc { s.fdc with mode := .auto, phase := some .runOn, runOn := some (s.now + 5), conveyor := 700 }

def st_FeedEvaluationFormsDuties_8 : State :=
  base.setFdc { base.fdc with runOn := none }

def st_SweepFillsLanesAndJudgesFlags_1 : State :=
  let s := base
  let s := (setNode .halt s).setResetLine false
  s.setMsi { s.msi with
    accumulating := true, jobStart := some (s.now - 100), lanes := s.msi.lanes.set 2 {
        count := 2, sum := 300, min := some 100, max := some 200 },
    sweepDue := s.now + 9 }

def st_SweepFillsLanesAndJudgesFlags_2 : State :=
  let s := base
  let s := (setNode .setup s).setResetLine false
  s.setMsi { s.msi with
    accumulating := true, jobStart := some (s.now - 100), lanes := s.msi.lanes.set 2 {
        count := 2, sum := 300, min := some 100, max := some 200 },
    sweepDue := s.now + 9 }

def st_SweepFillsLanesAndJudgesFlags_3 : State :=
  let s := base
  s.setMsi { s.msi with
    accumulating := false, jobStart := some (s.now - 100), lanes := s.msi.lanes.set 2 {
        count := 2, sum := 300, min := some 100, max := some 200 },
    sweepDue := s.now + 9 }

def st_SweepFillsLanesAndJudgesFlags_7 : State :=
  let s := base
  s.setMsi { s.msi with
    accumulating := true, jobStart := some (s.now - 100), lanes := s.msi.lanes.set 2 {
        count := 2, sum := 300, min := some 100, max := some 200 },
    sweepDue := s.now + 9 }

def st_LineAndTransmitErrors_1 : State :=
  let s := base
  let s := s.setLnk { s.lnk with
      slotU := none, slotP := (some powerUpDemand), slotB := some powerUpDemand, sending := none, tally := s.lnk.tally }
  s.setCfg { s.cfg with committed := putItem (putItem s.cfg.committed 42 1) 44 2 }

def st_LineAndTransmitErrors_2 : State :=
  base.setLnk { base.lnk with slotU := none, slotP := none, slotB := none }

def st_LineAndTransmitErrors_3 : State :=
  let s := base
  s.setLnk { s.lnk with
    slotU := none, slotP := (some powerUpDemand), slotB := some powerUpDemand, sending := some .b,
    tally := s.lnk.tally }

def st_LineAndTransmitErrors_4 : State :=
  let s := base
  s.setLnk { s.lnk with
    slotU := none, slotP := (some powerUpDemand), slotB := some powerUpDemand, sending := some .b, tally := 80 }

def st_LineAndTransmitErrors_5 : State :=
  let s := base
  s.setLnk { s.lnk with
    slotU := none, slotP := (some powerUpDemand), slotB := some powerUpDemand, sending := some .b, tally := 120 }

def st_LineAndTransmitErrors_6 : State :=
  let s := base
  let s := s.setRdu Rdu.reset
  s.setLnk { s.lnk with listenUntil := some (s.now + 9) }

def st_LineAndTransmitErrors_8 : State :=
  base.setLnk { base.lnk with slotU := none, slotP := none, slotB := none, sending := none }

def st_FramesDiscardedOrDropped_9 : State :=
  base.setLnk { base.lnk with listenUntil := some 5 }

def st_FrameCarriedInFourSteps_1 : State :=
  let s := base
  let s := takes (s.setRdu Rdu.reset)
  s.setLnk { s.lnk with
    slotP := some {
        dst := 15, tag := 0, resets := false, body := .demand {
            draw := 5, want := 0, need := 3, ready := true, mode := 1, node := 1 } },
    sending := some .p, pList := s.lnk.pList, uList := [] }

def st_FrameCarriedInFourSteps_2 : State :=
  let s := st_FrameCarriedInFourSteps_2_base
  s.setGsu { s.gsu with claim := some { zone := 1, power := 30, need := 5, window := none } }

def st_FrameCarriedInFourSteps_3 : State :=
  let s := st_FrameCarriedInFourSteps_2_base
  s.setGsu { s.gsu with claim := none }

def st_FrameCarriedInFourSteps_4 : State :=
  let s := base
  let s := takes (s.setRdu Rdu.reset)
  s.setLnk { s.lnk with
    slotP := some {
        dst := 15, tag := 0, resets := false, body := .levelStatus {
            side := 1, mode := 2, error := 0, duty := 0, refValid := true, trial := false } },
    sending := some .p, pList := s.lnk.pList, uList := [] }

def st_FrameCarriedInFourSteps_5 : State :=
  let s := base
  let s := takes (s.setRdu Rdu.reset)
  s.setLnk { s.lnk with
    slotP := some {
        dst := 15, tag := 0, resets := false, body := .feedStatus {
            side := 1, mode := 2, starved := true, degraded := false, level := 5 } 7 },
    sending := some .p, pList := s.lnk.pList, uList := [] }

def st_FrameCarriedInFourSteps_6 : State :=
  let s := base
  let s := takes (s.setRdu Rdu.reset)
  s.setLnk { s.lnk with
    slotP := some {
        dst := 15, tag := 0, resets := false, body := .coldSpot { bay := 1, interval := 2, cold := 1, coldest := 3 } },
    sending := some .p, pList := s.lnk.pList, uList := [] }

def st_FrameCarriedInFourSteps_7 : State :=
  let s := base
  let s := takes (s.setRdu Rdu.reset)
  s.setLnk { s.lnk with
    slotU := some { dst := 15, tag := 0, resets := false, body := (.alert { source := 3, present := 4, mask := 4 }) },
    sending := some .u, pList := s.lnk.pList, uList := [] }

def st_FrameCarriedInFourSteps_8 : State :=
  let s := base
  let s := takes (s.setRdu Rdu.reset)
  s.setLnk { s.lnk with
    slotB := some { dst := 15, tag := 0, resets := false, body := .void .lapped 1 2 }, sending := some .b,
    pList := s.lnk.pList, uList := [] }

def st_FrameCarriedInFourSteps_9 : State :=
  let s := base
  s.setLnk { s.lnk with
    slotU := some { dst := 9, tag := 3, resets := true, body := .reply .done .empty }, sending := some .u }

def st_ChannelStepFormsFrame_1 : State :=
  let s := st_ChannelStepFormsFrame_1_base
  setChannel 1 {
    state := .headers, owner := some 9, next := 4096, count := 7, remaining := 3, headerCount := 3, headersLeft := 3,
    cyclic := (0 < 2), closeFlag := true, recordsSent := 7, voidsSent := 16777214, status := .stopped } s

def st_ChannelStepFormsFrame_2 : State :=
  let s := st_ChannelStepFormsFrame_1_base
  setChannel 1 {
    state := .records, owner := some 9, next := 4098, count := 7, remaining := 3, headerCount := 3, headersLeft := 3,
    cyclic := (0 < 2), closeFlag := true, recordsSent := 7, voidsSent := 16777214, status := .stopped } s

def st_ChannelStepFormsFrame_3 : State :=
  let s := base.setNow 5001
  let s := s.setRdu { s.rdu with channels := s.rdu.channels.set 0 Channel.reset }
  let s := s.setLnk { s.lnk with
      slotB := some { dst := 9, tag := 0, resets := false, body := .void .lapped 1 2 }, sending := some .b }
  let s := s.setRing { s.ring with
      nextSeq := 4100, held := 5, slots := [
          storedSlot 0 (List.replicate 33 9) true, storedSlot 1 (List.replicate 33 9) true, storedSlot 2 (
              List.replicate 33 9) false,
          storedSlot 3 (List.replicate 33 9) false, storedSlot 4095 (List.replicate 33 9) false] }
  setChannel 1 {
    state := .records, owner := some 9, next := 4096, count := 7, remaining := 1, headerCount := 3, headersLeft := 1,
    cyclic := (1 < 2), closeFlag := true, recordsSent := 7, voidsSent := 16777214, status := .stopped } s

def st_ChannelStepFormsFrame_4 : State :=
  let s := st_ChannelStepFormsFrame_1_base
  setChannel 1 {
    state := .records, owner := some 9, next := 4093, count := 7, remaining := 3, headerCount := 3, headersLeft := 3,
    cyclic := (0 < 2), closeFlag := true, recordsSent := 7, voidsSent := 16777214, status := .stopped } s

def st_ChannelStepFormsFrame_5 : State :=
  let s := st_ChannelStepFormsFrame_1_base
  setChannel 1 {
    state := .closing, owner := some 9, next := 4096, count := 7, remaining := 3, headerCount := 3, headersLeft := 3,
    cyclic := (0 < 2), closeFlag := true, recordsSent := 7, voidsSent := 16777214, status := .stopped } s

def st_BroadcastArrivalsActOnBlocks_2 : State :=
  let s := st_BackOffAndHoldOffEnd_3_base
  (s.setGsu { s.gsu with claim := (some { zone := 1, power := 30, need := 9, window := none }),
                         holdOff := none }).setPtb { Ptb.reset with
    scanDue := s.now }

def st_BroadcastArrivalsActOnBlocks_4 : State :=
  let s := base
  let s := s.setPtb { s.ptb with entries := Ptb.reset.entries }
  let s := s.setCfg { s.cfg with straps := { s.cfg.straps with lev := (some .left), feed := (some .left) } }
  s.setLvc { s.lvc with mode := .grade }

def st_BroadcastArrivalsActOnBlocks_5 : State :=
  let s := st_BroadcastArrivalsActOnBlocks_5_base
  s.setLvc { s.lvc with mode := .grade }

def st_BroadcastArrivalsActOnBlocks_6 : State :=
  let s := st_BroadcastArrivalsActOnBlocks_5_base
  s.setLvc { s.lvc with mode := .slope }

def st_BroadcastArrivalsActOnBlocks_8 : State :=
  let s := st_BroadcastArrivalsActOnBlocks_5_base
  s.setLvc { s.lvc with mode := .off }

def st_BroadcastArrivalsActOnBlocks_9 : State :=
  let s := st_BroadcastArrivalsActOnBlocks_8
  s.setFdc { s.fdc with mode := .auto, starved := true, conveyor := 700 }

def st_LevelModeChangesMode_1 : State :=
  let s := st_LevelModeChangesMode_1_base
  s.setLvc { s.lvc with mode := .grade }

def st_LevelModeChangesMode_3 : State :=
  let s := st_LevelModeChangesMode_1_base
  s.setLvc { s.lvc with mode := .slope, reference := some 4000 }

def st_LevelModeChangesMode_4 : State :=
  let s := st_LevelModeChangesMode_1_base
  s.setLvc { s.lvc with mode := .slope, reference := none }

def st_LevelModeChangesMode_5 : State :=
  let s := st_LevelModeChangesMode_5_base
  let s := setEntry 9 { s.entry 9 with
      level := some ({ side := 2, mode := 2, error := 0, duty := 0, refValid := true, trial := false }, s.now) } s
  s.setLvc { s.lvc with mode := .grade }

def st_LevelModeChangesMode_6 : State :=
  let s := st_LevelModeChangesMode_5_base
  let s := setEntry 9 { s.entry 9 with
      level := some ({ side := 2, mode := 0, error := 0, duty := 0, refValid := true, trial := false }, s.now) } s
  s.setLvc { s.lvc with mode := .grade }

def st_LevelModeChangesMode_7 : State :=
  let s := st_LevelModeChangesMode_1_base
  s.setLvc { s.lvc with mode := .off }

def st_LevelModeChangesMode_10 : State :=
  let s := st_LevelModeChangesMode_1_base
  s.setCfg { s.cfg with straps := { s.cfg.straps with lev := none } }

def st_LevelSetAndZeroStore_3 : State :=
  let s := st_LevelModeChangesMode_1_base
  s.setLvc { s.lvc with mode := .manual, gains := Gains.default }

def st_LevelSetAndZeroStore_6 : State :=
  let s := st_LevelModeChangesMode_1_base
  s.setLvc { s.lvc with mode := .manual }

def st_LevelSetAndZeroStore_9 : State :=
  let s := st_LevelModeChangesMode_1_base
  s.setLvc { s.lvc with heads := #v[some (4100, s.now), none, some (4103, s.now - 150)] }

def st_LevelSetAndZeroStore_10 : State :=
  let s := st_LevelModeChangesMode_1_base
  s.setLvc { s.lvc with heads := #v[some (4100, s.now), none, some (4103, s.now - 151)] }

def st_GainsAndTrialRequests_1 : State :=
  let s := st_LevelModeChangesMode_1_base
  s.setLvc { s.lvc with mode := .grade, trial := none, output := -300, slew := 600 }

def st_GainsAndTrialRequests_2 : State :=
  let s := st_LevelModeChangesMode_1_base
  s.setLvc { s.lvc with
    mode := .manual, trial := none, output := -300, jog := some { duty := -300, endTime := s.now + 9 } }

def st_GainsAndTrialRequests_3 : State :=
  let s := st_LevelModeChangesMode_1_base
  s.setLvc { s.lvc with mode := .off, trial := none, jog := none }

def st_GainsAndTrialRequests_4 : State :=
  let s := st_LevelModeChangesMode_1_base
  s.setLvc { s.lvc with
    mode := .grade, trial := some {
        gains := { d := 10, p := 60, uMin := 50, uMax := 600, slew := 100 }, w := 200, k := 3, strikes := 1,
        cycles := 7, guardSlew := -400, trialDuty := 150, guardDuty := -400 },
    output := 150, slew := 150, paused := false, lastError := 12 }

def st_GainsAndTrialRequests_7 : State :=
  let s := st_LevelModeChangesMode_1_base
  s.setLvc { s.lvc with mode := .grade, trial := none, output := -300, slew := -300 }

def st_GainsAndTrialRequests_10 : State :=
  let s := st_LevelModeChangesMode_1_base
  s.setLvc { s.lvc with
    mode := .grade, trial := some {
        gains := { d := 10, p := 60, uMin := 50, uMax := 600, slew := 100 }, w := 200, k := 3, strikes := 1,
        cycles := 7, guardSlew := -400, trialDuty := 150, guardDuty := -400 },
    output := -90, slew := -90, paused := true, lastError := 12 }

def st_GainsAndTrialRequests_11 : State :=
  let s := st_LevelModeChangesMode_1_base
  s.setLvc { s.lvc with trial := none }

def st_FeedRequestsAct_1 : State :=
  let s := st_FeedRequestsAct_1_base
  s.setFdc { s.fdc with mode := s.fdc.mode, starved := false, phase := some .idle }

def st_FeedRequestsAct_2 : State :=
  let s := st_FeedRequestsAct_1_base
  s.setFdc { s.fdc with mode := .off, starved := false, phase := some .idle }

def st_FeedRequestsAct_3 : State :=
  let s := st_FeedRequestsAct_1_base
  s.setFdc { s.fdc with mode := .auto, starved := false, phase := some .idle }

def st_FeedRequestsAct_5 : State :=
  let s := st_FeedRequestsAct_1_base
  s.setFdc { s.fdc with mode := .manual, starved := false, phase := some .idle }

def st_FeedRequestsAct_9 : State :=
  let s := st_FeedRequestsAct_2
  s.setCfg { s.cfg with straps := { s.cfg.straps with feed := none } }

def st_JobStartAndEnd_1 : State :=
  let s := st_JobStartAndEnd_1_base
  let s := s.setTrv { s.trv with
      state := .moving, jobOpen := false, last := some {
          src := 12, left := 100, right := 120, seq := some 4, time := some s.now } }
  let s := s.setRing { s.ring with held := s.ring.held, overwritten := 16777215 }
  s.setMsi { s.msi with
    accumulating := false, jobStart := some (s.now - 700), lanes := s.msi.lanes.set 3 {
        count := 2, sum := 300, min := some 100, max := some 200 } }

def st_JobStartAndEnd_2 : State :=
  let s := st_JobStartAndEnd_1_base
  let s := s.setTrv { s.trv with
      state := .moving, jobOpen := true, last := some {
          src := 12, left := 100, right := 120, seq := some 4, time := some s.now } }
  let s := s.setRing { s.ring with held := s.ring.held, overwritten := 16777215 }
  s.setMsi { s.msi with
    accumulating := true, jobStart := some (s.now - 700), lanes := s.msi.lanes.set 3 {
        count := 2, sum := 300, min := some 100, max := some 200 } }

def st_JobStartAndEnd_3 : State :=
  base.setTrv { base.trv with state := .unknown }

def st_JobStartAndEnd_5 : State :=
  let s := st_JobStartAndEnd_2
  setNode .halt s

def st_ReadoutRequestsAct_1 : State :=
  let s := st_ReadoutRequestsAct_1_base
  setChannel 2 { s.channel 2 with state := .idle, owner := none } s

def st_ReadoutRequestsAct_2 : State :=
  let s := st_ReadoutRequestsAct_1
  let s := s.setEvc { counters := #v[⟨21, 0, 1, none⟩, ⟨22, 0, 1, none⟩, ⟨19, 3, 9, none⟩, ⟨5, 9, 4, none⟩] }
  s.setLnk { s.lnk with slotB := none }

def st_ReadoutRequestsAct_3 : State :=
  let s := st_ReadoutRequestsAct_1_base
  setChannel 2 { s.channel 2 with state := .wait, owner := some 9 } s

def st_ReadoutRequestsAct_4 : State :=
  let s := st_ReadoutRequestsAct_1_base
  setChannel 2 { s.channel 2 with state := .idle, owner := some 9 } s

def st_ReadoutRequestsAct_6 : State :=
  let s := st_ReadoutRequestsAct_1_base
  setChannel 2 { s.channel 2 with state := .records, owner := none } s

def st_ReadoutRequestsAct_7 : State :=
  let s := st_ReadoutRequestsAct_1_base
  setChannel 2 { s.channel 2 with state := .headers, owner := some 9 } s

def st_ReadoutRequestsAct_8 : State :=
  let s := st_ReadoutRequestsAct_1_base
  setChannel 2 { s.channel 2 with state := .closing, owner := some 9 } s

def st_ReadoutRequestsAct_9 : State :=
  let s := st_ReadoutRequestsAct_3
  let s := setChannel 2 { s.channel 2 with closeFlag := true, next := 2 } s
  s.setLnk { s.lnk with slotB := none }

def st_ReadoutRequestsAct_10 : State :=
  let s := st_ReadoutRequestsAct_1_base
  setChannel 2 { s.channel 2 with state := .records, owner := some 9 } s

def st_CounterAlertCheckRequestsAct_1 : State :=
  let s := base
  s.setEvc {
    counters := #v[
        { selection := 5, value := 3, threshold := 4, capture := none }, {
            selection := 5, value := 16777215, threshold := 0, capture := none },
        {
            selection := 1, value := 3, threshold := 1, capture := some {
                counter := 2, event := 1, time := 1, index := 2, item := 3 } },
        { selection := 0, value := 0, threshold := 9, capture := none }] }

def st_CounterAlertCheckRequestsAct_4 : State :=
  let s := base
  let s := s.setAlr { present := 680, mask := 344 }
  s.setLnk { Lnk.reset with slotU := none, uList := [] }

def st_CounterAlertCheckRequestsAct_5 : State :=
  base.setAlr { present := 680, mask := 344 }

def st_CounterAlertCheckRequestsAct_9 : State :=
  base.setMck { base.mck with pending := true, overflow := true }

theorem test_meets_StepRunsFront_1 : ∃ (s : State) (c : Instr) (rest : List Instr),
      s.pending = c :: rest :=
  ⟨st_StepRunsFront_1, .lineIdle, [], by decide +kernel⟩

theorem test_meets_IdleStepPassesOneMillisecond_1 : ∃ (s : State),
      s.pending = [] :=
  ⟨st_IdleStepPassesOneMillisecond_1, by decide +kernel⟩

theorem test_meets_QueueUntouched_1 : ∃ (s t : State) (c : Instr),
      exec c s = .next t :=
  ⟨base, (match exec .lineIdle base with | .next t => t | _ => base), .lineIdle, rfl⟩

theorem test_meets_EveryWellFormedCommandRuns_1 : ∃ (c : Instr),
      c.wellFormed = true :=
  ⟨.lineIdle, by decide +kernel⟩

theorem test_meets_EveryWellFormedCommandRuns_3 : ∃ (s : State) (c : Instr) (f : Fault),
      exec c s = .fault f :=
  ⟨base, .sweepArrival [], .illFormed, rfl⟩

theorem test_meets_ResetLineHoldsEveryBlock_1 : ∃ (s : State) (c : Instr),
      s.resetLine = true ∧
      c.wellFormed = true ∧
      actsInReset c = false :=
  ⟨st_ResetLineHoldsEveryBlock_1, .peerAgeingScan, by decide +kernel⟩

theorem test_meets_ResetLineHoldsEveryBlock_2 : ∃ (s : State),
      s.resetLine = true :=
  ⟨st_ResetLineHoldsEveryBlock_1, by decide +kernel⟩

theorem test_meets_HeatLawKept_1 : ∃ (s t : State),
      HeatLaw s ∧
      step s = .next t :=
  ⟨State.reset, tick State.reset, by decide +kernel, rfl⟩

theorem test_meets_HeatLawKept_2 : ∃ (s t : State) (c : Instr) (z : ZoneId),
      exec c s = .next t ∧
      (s.zone z).element = false ∧
      (t.zone z).element = true :=
  ⟨st_HeatLawKept_2, (match exec .claimWindowExpiry st_HeatLawKept_2 with | .next t => t | _ => base),
    .claimWindowExpiry, 2,
    rfl, by decide +kernel⟩

theorem test_meets_FeedLawKept_1 : ∃ (s t : State),
      FeedLaw s ∧
      step s = .next t :=
  ⟨State.reset, tick State.reset, by decide +kernel, rfl⟩

theorem test_meets_LevelLawKept_1 : ∃ (s t : State),
      ValveLaw s ∧ GainItemsLaw s ∧
      step s = .next t :=
  ⟨State.reset, tick State.reset, by decide +kernel, by decide +kernel, rfl⟩

theorem test_meets_LevelLawKept_2 : ∃ (s t : State),
      LanesLaw s ∧
      step s = .next t :=
  ⟨State.reset, tick State.reset, by decide +kernel, rfl⟩

theorem test_meets_ReadoutLawKept_1 : ∃ (s t : State),
      ReadoutLaw s ∧
      step s = .next t :=
  ⟨State.reset, tick State.reset, by decide +kernel, rfl⟩

theorem test_meets_RingLawKept_1 : ∃ (s t : State),
      RingLaw s.ring ∧
      step s = .next t :=
  ⟨State.reset, tick State.reset, reset_ringLaw, rfl⟩

theorem test_meets_CountersAndCheckLawKept_1 : ∃ (s t : State),
      (CountersLaw s ∧ CheckLaw s.mck) ∧
      step s = .next t :=
  ⟨State.reset, tick State.reset, by decide +kernel, rfl⟩

theorem test_meets_LinkLawKept_1 : ∃ (s t : State),
      LinkLaw s ∧
      step s = .next t :=
  ⟨State.reset, tick State.reset, by decide +kernel, rfl⟩

theorem test_meets_AlertLawKept_1 : ∃ (s t : State),
      AlertLaw s ∧
      step s = .next t :=
  ⟨State.reset, tick State.reset, by decide +kernel, rfl⟩

theorem test_meets_NodeAndTravelLawKept_1 : ∃ (s t : State),
      (NodeLaw s ∧ TravelLaw s) ∧
      step s = .next t :=
  ⟨State.reset, tick State.reset, by decide +kernel, rfl⟩

theorem test_meets_CounterFallsOnlyWhenCleared_1 : ∃ (s t : State) (c : Instr) (n : Fin 4),
      (c.wellFormed = true ∧ mayClear n c = false ∧ (s.counter n).value ≤ max24) ∧
      exec c s = .next t :=
  ⟨base, (match exec .levellingCycle base with | .next t => t | _ => base), .levellingCycle, 3,
    by decide +kernel, rfl⟩

theorem test_meets_BroadcastPayloadsRoundTrip_1 : ∃ (d : Demand),
      d.draw < 65536 ∧
      d.want < 256 ∧
      d.need < 256 ∧
      d.mode < 256 ∧
      d.node < 256 :=
  ⟨{ draw := 65535, want := 255, need := 255, ready := true, mode := 255, node := 255 }, by decide +kernel⟩

theorem test_meets_BroadcastPayloadsRoundTrip_2 : ∃ (c : Claim),
      c.zone < 256 ∧
      c.power < 256 ∧
      c.need < 256 :=
  ⟨{ zone := 255, power := 0, need := 255 }, by decide +kernel⟩

theorem test_meets_BroadcastPayloadsRoundTrip_3 : ∃ (l : LevelStatus),
      l.side < 256 ∧
      l.mode < 256 ∧
      -32768 ≤ l.error ∧
      l.error ≤ 32767 ∧
      -32768 ≤ l.duty ∧
      l.duty ≤ 32767 :=
  ⟨{ side := 255, mode := 0, error := -32768, duty := 32767, refValid := true, trial := false }, by decide +kernel⟩

theorem test_meets_BroadcastPayloadsRoundTrip_4 : ∃ (f : FeedPart) (conveyor : Nat),
      f.side < 256 ∧
      f.mode < 256 ∧
      f.level < 65536 ∧
      conveyor < 65536 :=
  ⟨{ side := 255, mode := 0, starved := true, degraded := false, level := 65535 }, 65535, by decide +kernel⟩

theorem test_meets_WarmResetOfSoundAndDamaged_1 : ∃ (s : State) (pins : StrapPins),
      s.cfg.valid = true ∧
      checkValue s.cfg.committed (readStraps pins) = s.cfg.check ∧
      s.haltInput = false :=
  ⟨st_WarmResetOfSoundAndDamaged_1, base.pins, by decide +kernel⟩

theorem test_meets_WarmResetOfSoundAndDamaged_2 : ∃ (s : State) (pins : StrapPins),
      (s.cfg.valid = false ∨ checkValue s.cfg.committed (readStraps pins) ≠ s.cfg.check) :=
  ⟨st_WarmResetOfSoundAndDamaged_2, openPins, by decide +kernel⟩

theorem test_meets_WarmResetOfSoundAndDamaged_3 : ∃ (s : State) (pins : StrapPins),
      s.cfg.valid = true ∧
      checkValue s.cfg.committed (readStraps pins) = s.cfg.check ∧
      s.haltInput = true :=
  ⟨st_WarmResetOfSoundAndDamaged_3, base.pins, by decide +kernel⟩

theorem test_meets_HaltInputMovesRunToHalt_1 : ∃ (s : State),
      (s.resetLine = false ∧ s.cfg.node = .run) ∧
      ValveLaw s ∧
      FeedLaw s :=
  ⟨st_HaltInputMovesRunToHalt_1, by decide +kernel, by decide +kernel, by decide +kernel⟩

theorem test_meets_HaltInputMovesRunToHalt_2 : ∃ (s : State),
      s.resetLine = false ∧
      s.cfg.node ≠ .run :=
  ⟨st_HaltInputMovesRunToHalt_2, by decide +kernel⟩

theorem test_meets_HaltInputMovesRunToHalt_3 : ∃ (s : State),
      s.resetLine = false :=
  ⟨st_HaltInputMovesRunToHalt_3, by decide +kernel⟩

theorem test_meets_ExtensionMovesWidthAndCentre_1 : ∃ (s : State) (e : Int),
      s.resetLine = false ∧
      s.cfg.straps.ext = true ∧
      0 ≤ e ∧
      e ≤ 1000 :=
  ⟨st_ExtensionMovesWidthAndCentre_1, 1000, by decide +kernel⟩

theorem test_meets_ExtensionMovesWidthAndCentre_2 : ∃ (s : State) (e : Int),
      (s.cfg.straps.ext = false ∨ e < 0 ∨ 1000 < e) :=
  ⟨base, 1001, by decide +kernel⟩

theorem test_meets_NodeResetAnswersThenResets_1 : ∃ (s : State) (src : Addr),
      Takes s src [] :=
  ⟨base, 9, by decide +kernel⟩

theorem test_meets_NodeResetAnswersThenResets_2 : ∃ (s : State) (src : Addr) (payload : List Byte),
      Takes s src payload ∧
      payload ≠ [] :=
  ⟨base, 9, [1], by decide +kernel⟩

theorem test_meets_NodeResetAnswersThenResets_3 : ∃ (s : State) (src : Addr) (tag : Byte) (payload : List Byte)
    (c : Instr),
      requestOf c = some (src, tag, payload) ∧
      c.wellFormed = true ∧
      Hears s src payload ∧
      s.lnk.resetPending.isSome = true :=
  ⟨st_NodeResetAnswersThenResets_3, 9, 7, [], .identRead 9 7 [], by decide +kernel⟩

theorem test_meets_NodeResetAnswersThenResets_4 : ∃ (s : State) (since : Time),
      s.resetLine = false ∧
      s.lnk.resetPending = some since :=
  ⟨st_NodeResetAnswersThenResets_4, base.now, by decide +kernel⟩

theorem test_meets_NodeResetAnswersThenResets_5 : ∃ (s : State),
      s.lnk.resetPending = none :=
  ⟨st_NodeResetAnswersThenResets_5, by decide +kernel⟩

theorem test_meets_IdentReadAnswersIdentity_1 : ∃ (s : State) (src : Addr),
      Takes s src [] ∧
      NodeLaw s :=
  ⟨st_HaltInputMovesRunToHalt_1, 9, by decide +kernel⟩

theorem test_meets_IdentReadAnswersIdentity_2 : ∃ (s : State) (src : Addr) (payload : List Byte),
      Takes s src payload ∧
      payload ≠ [] :=
  ⟨base, 9, [1], by decide +kernel⟩

theorem test_meets_ConfigSetStoresClampedItem_1 : ∃ (s : State) (src : Addr) (n hi lo : Byte) (least most stored : Int),
      Takes s src [n, hi, lo] ∧
      s.cfg.node = .setup ∧
      1 ≤ n.toNat ∧
      n.toNat ≤ 44 ∧
      least = (if n.toNat = 29 then max 20 (itemOf s.cfg.working 28 + 5) else if n.toNat = 31 then
          itemOf s.cfg.working 30
        else (itemTable.getD (n.toNat - 1) ⟨0, 0, 0⟩).lo) ∧
      most = (itemTable.getD (n.toNat - 1) ⟨0, 0, 0⟩).hi ∧
      stored = (if s16 hi lo < least then least else if most < s16 hi lo then most else s16 hi lo) :=
  ⟨st_HaltInputMovesRunToHalt_2, 9, 29, 0, 0, 20, 300, 20, by decide +kernel⟩

theorem test_meets_ConfigSetStoresClampedItem_2 : ∃ (s : State) (src : Addr) (n hi lo : Byte),
      Takes s src [n, hi, lo] ∧
      s.cfg.node = .setup ∧
      (n = 0 ∨ 44 < n.toNat) :=
  ⟨st_HaltInputMovesRunToHalt_2, 9, 45, 0, 0, by decide +kernel⟩

theorem test_meets_ConfigSetStoresClampedItem_3 : ∃ (s : State) (src : Addr) (payload : List Byte),
      Takes s src payload ∧
      s.cfg.node = .setup ∧
      payload.length ≠ 3 :=
  ⟨st_HaltInputMovesRunToHalt_2, 9, [1, 2], by decide +kernel⟩

theorem test_meets_ConfigSetStoresClampedItem_4 : ∃ (s : State) (src : Addr) (payload : List Byte),
      Takes s src payload ∧
      s.cfg.node ≠ .setup :=
  ⟨base, 9, [1, 0, 2], by decide +kernel⟩

theorem test_meets_ConfigSetStoresClampedItem_6 : ∃ (s : State) (pins : StrapPins),
      (s.cfg.valid = false ∨ checkValue s.cfg.committed (readStraps pins) ≠ s.cfg.check) :=
  ⟨st_WarmResetOfSoundAndDamaged_2, openPins, by decide +kernel⟩

theorem test_meets_ConfigCommitChecksThenRuns_1 : ∃ (s : State) (src : Addr) (n : Nat),
      Takes s src [] ∧
      s.cfg.node = .setup ∧
      (let w := itemOf s.cfg.working;
        if w 6 ≤ w 5 then some 6 else if w 29 < w 28 + 5 then some 29 else if w 31 < w 30 then some 31
        else if w 1 = 0 then some 1 else if s.cfg.straps.ext = true ∧ w 4 ≤ 0 then some 4 else none) = some n :=
  ⟨st_ConfigCommitChecksThenRuns_1, 9, 1, by decide +kernel⟩

theorem test_meets_ConfigCommitChecksThenRuns_2 : ∃ (s : State) (src : Addr),
      Takes s src [] ∧
      s.cfg.node = .setup ∧
      (let w := itemOf s.cfg.working;
        if w 6 ≤ w 5 then some 6 else if w 29 < w 28 + 5 then some 29 else if w 31 < w 30 then some 31
        else if w 1 = 0 then some 1 else if s.cfg.straps.ext = true ∧ w 4 ≤ 0 then some 4 else none) = none ∧
      s.haltInput = false ∧
      s.gsu.reported.node = .setup ∧
      (s.msi.accumulating = false ∨ s.trv.index ≤ s.msi.openIndex) :=
  ⟨st_ConfigCommitChecksThenRuns_2, 9, by decide +kernel⟩

theorem test_meets_ConfigCommitChecksThenRuns_3 : ∃ (s : State) (src : Addr) (w : ColdSpot) (p v : State),
      Takes s src [] ∧
      s.cfg.node = .setup ∧
      (let w := itemOf s.cfg.working;
        if w 6 ≤ w 5 then some 6 else if w 29 < w 28 + 5 then some 29 else if w 31 < w 30 then some 31
        else if w 1 = 0 then some 1 else if s.cfg.straps.ext = true ∧ w 4 ≤ 0 then some 4 else none) = none ∧
      s.haltInput = false ∧
      w = coldSpotNow (s.setCfg { s.cfg with committed := s.cfg.working }) ∧
      s.gsu.reported.node = .setup ∧
      s.msi.accumulating = true ∧
      s.msi.openIndex < s.trv.index ∧
      s.trv.index ≤ max24 ∧
      p = s.setCfg { s.cfg.commit with node := .run } ∧
      v = ringWrite (buildRecord (min 255 (s.trv.index - s.msi.openIndex)) (addStopTime (judgeJobTime p)))
        (clearStopTime (addStopTime (judgeJobTime p))) :=
  ⟨st_ConfigCommitChecksThenRuns_3, 9,
    (coldSpotNow (st_ConfigCommitChecksThenRuns_3.setCfg { st_ConfigCommitChecksThenRuns_3.cfg with
                                                             committed := st_ConfigCommitChecksThenRuns_3.cfg.working
        })),
    (st_ConfigCommitChecksThenRuns_3.setCfg { st_ConfigCommitChecksThenRuns_3.cfg.commit with node := .run }),
    (ringWrite (buildRecord (min 255 (st_ConfigCommitChecksThenRuns_3.trv.index -
        st_ConfigCommitChecksThenRuns_3.msi.openIndex)) (addStopTime
        (judgeJobTime (st_ConfigCommitChecksThenRuns_3.setCfg { st_ConfigCommitChecksThenRuns_3.cfg.commit with
                                                                  node := .run })))) (clearStopTime
        (addStopTime (judgeJobTime (st_ConfigCommitChecksThenRuns_3.setCfg
        { st_ConfigCommitChecksThenRuns_3.cfg.commit with node := .run }))))),
    by decide +kernel⟩

theorem test_meets_ConfigCommitChecksThenRuns_4 : ∃ (s : State) (src : Addr),
      Takes s src [] ∧
      s.cfg.node = .setup ∧
      (let w := itemOf s.cfg.working;
        if w 6 ≤ w 5 then some 6 else if w 29 < w 28 + 5 then some 29 else if w 31 < w 30 then some 31
        else if w 1 = 0 then some 1 else if s.cfg.straps.ext = true ∧ w 4 ≤ 0 then some 4 else none) = none ∧
      s.haltInput = true :=
  ⟨st_ConfigCommitChecksThenRuns_4, 9, by decide +kernel⟩

theorem test_meets_ConfigCommitChecksThenRuns_5 : ∃ (s : State) (src : Addr) (w : ColdSpot) (p v : State),
      Takes s src [] ∧
      s.cfg.node = .setup ∧
      (let w := itemOf s.cfg.working;
        if w 6 ≤ w 5 then some 6 else if w 29 < w 28 + 5 then some 29 else if w 31 < w 30 then some 31
        else if w 1 = 0 then some 1 else if s.cfg.straps.ext = true ∧ w 4 ≤ 0 then some 4 else none) = none ∧
      s.haltInput = true ∧
      w = coldSpotNow (s.setCfg { s.cfg with committed := s.cfg.working }) ∧
      s.gsu.reported.node = .setup ∧
      s.msi.accumulating = true ∧
      s.msi.openIndex < s.trv.index ∧
      s.trv.index ≤ max24 ∧
      p = s.setCfg { s.cfg.commit with node := .run } ∧
      v = ringWrite (buildRecord (min 255 (s.trv.index - s.msi.openIndex)) (addStopTime (judgeJobTime p)))
        (clearStopTime (addStopTime (judgeJobTime p))) :=
  ⟨st_ConfigCommitChecksThenRuns_5, 9,
    (coldSpotNow (st_ConfigCommitChecksThenRuns_5.setCfg { st_ConfigCommitChecksThenRuns_5.cfg with
                                                             committed := st_ConfigCommitChecksThenRuns_5.cfg.working
        })),
    (st_ConfigCommitChecksThenRuns_5.setCfg { st_ConfigCommitChecksThenRuns_5.cfg.commit with node := .run }),
    (ringWrite (buildRecord (min 255 (st_ConfigCommitChecksThenRuns_5.trv.index -
        st_ConfigCommitChecksThenRuns_5.msi.openIndex)) (addStopTime
        (judgeJobTime (st_ConfigCommitChecksThenRuns_5.setCfg { st_ConfigCommitChecksThenRuns_5.cfg.commit with
                                                                  node := .run })))) (clearStopTime
        (addStopTime (judgeJobTime (st_ConfigCommitChecksThenRuns_5.setCfg
        { st_ConfigCommitChecksThenRuns_5.cfg.commit with node := .run }))))),
    by decide +kernel⟩

theorem test_meets_ConfigCommitChecksThenRuns_6 : ∃ (s : State) (src : Addr) (payload : List Byte),
      Takes s src payload ∧
      s.cfg.node = .setup ∧
      payload ≠ [] :=
  ⟨st_HaltInputMovesRunToHalt_2, 9, [1], by decide +kernel⟩

theorem test_meets_ConfigCommitChecksThenRuns_7 : ∃ (s : State) (src : Addr) (payload : List Byte),
      Takes s src payload ∧
      s.cfg.node ≠ .setup :=
  ⟨base, 9, [], by decide +kernel⟩

theorem test_meets_NodeResumeLeavesHalt_1 : ∃ (s : State) (src : Addr),
      Takes s src [] ∧
      s.cfg.node = .halt ∧
      s.haltInput = false ∧
      s.gsu.reported.node = .halt :=
  ⟨st_NodeResumeLeavesHalt_1, 9, by decide +kernel⟩

theorem test_meets_NodeResumeLeavesHalt_2 : ∃ (s : State) (src : Addr),
      Takes s src [] ∧
      s.cfg.node = .halt ∧
      s.haltInput = true :=
  ⟨st_NodeResumeLeavesHalt_2, 9, by decide +kernel⟩

theorem test_meets_NodeResumeLeavesHalt_3 : ∃ (s : State) (src : Addr) (payload : List Byte),
      Takes s src payload ∧
      s.cfg.node = .halt ∧
      payload ≠ [] :=
  ⟨st_NodeResumeLeavesHalt_3, 9, [1], by decide +kernel⟩

theorem test_meets_GateRefusesOutsideItsStates_1 : ∃ (s : State) (src : Addr) (tag : Byte) (payload : List Byte)
    (c : Instr),
      requestOf c = some (src, tag, payload) ∧
      Takes s src payload ∧
      gatePasses c s.cfg.node = false :=
  ⟨base, 9, 7, [1, 0, 2], .configSet 9 7 [1, 0, 2], by decide +kernel⟩

theorem test_meets_AgeingScanDropsOldParts_1 : ∃ (s : State) (n : Time),
      s.resetLine = false ∧
      n = (reach s.ptb.scanDue s).now ∧
      (∀ a : Addr, a.val < 15 → (s.entry a).silent = true ∨ (s.entry a).quiet n = false) ∧
      (∀ a : Addr, a.val < 15 → a ≠ s.self → heatingLost n (s.entry a) = false) :=
  ⟨st_HaltInputMovesRunToHalt_3, 5000, by decide +kernel⟩

theorem test_meets_AgeingScanDropsOldParts_2 : ∃ (s : State) (n : Time) (peer : Addr) (d : Demand) (since : Time),
      s.resetLine = false ∧
      n = (reach s.ptb.scanDue s).now ∧
      s.lnk.slotB.isSome = true ∧
      peer.val < 15 ∧
      peer ≠ s.self ∧
      (s.entry peer).heating = some (d, since) ∧
      5000 < age n since :=
  ⟨st_AgeingScanDropsOldParts_2, 5000, 5, { draw := 1, want := 0, need := 0, ready := true, mode := 1, node := 1 },
    5000 - 5001,
    by decide +kernel⟩

theorem test_meets_AgeingScanDropsOldParts_3 : ∃ (s : State) (n : Time) (owner : Addr) (since : Time) (k : Fin 4),
      s.resetLine = false ∧
      n = (reach s.ptb.scanDue s).now ∧
      (s.lnk.slotB.isSome = true ∨ s.active = false) ∧
      owner.val < 15 ∧
      (s.entry owner).heard = true ∧
      (s.entry owner).silent = false ∧
      (s.entry owner).lastTime = some since ∧
      5000 < age n since ∧
      (s.channel k).owner = some owner ∧
      ((s.channel k).state = .headers ∨ (s.channel k).state = .records ∨ (s.channel k).state = .wait) :=
  ⟨st_AgeingScanDropsOldParts_3, 5000, 9, 5000 - 5001, 2, by decide +kernel⟩

theorem test_meets_AgeingScanDropsOldParts_4 : ∃ (s : State) (n : Time),
      s.resetLine = false ∧
      n = (reach s.ptb.scanDue s).now :=
  ⟨st_AgeingScanDropsOldParts_4, 5000, by decide +kernel⟩

theorem test_meets_AgeingScanDropsOldParts_5 : ∃ (s : State) (n : Time),
      (s.resetLine = false ∧ n = (reach s.ptb.scanDue s).now ∧
          (s.lnk.slotB.isSome = true ∨ s.active = false ∨ readyChannel s = none)) ∧
      (∀ k : Fin 4, Reading (s.channel k) → ∀ a ∈ (s.channel k).owner, a.val < 15 → (s.entry a).silent = true ∨
          (s.entry a).quiet n = false) :=
  ⟨st_AgeingScanDropsOldParts_5, 5000, by decide +kernel, by intro k; revert k; decide +kernel⟩

theorem test_meets_AgeingScanDropsOldParts_6 : ∃ (s : State) (n : Time) (owner : Addr) (k : Fin 4),
      (s.resetLine = false ∧ n = (reach s.ptb.scanDue s).now ∧ s.lnk.slotB = none ∧ s.active = true ∧
          readyChannel s = none ∧ owner.val < 15 ∧ (s.entry owner).silent = false ∧ (s.entry owner).quiet n = true ∧
          (s.channel k).owner = some owner ∧ (s.channel k).state = .wait) ∧
      (∀ m : Fin 4, (s.channel m).state = .wait → ∀ a ∈ (s.channel m).owner, (s.entry a).silent = false →
          (s.entry a).quiet n = true →
          owner < a ∨ (owner = a ∧ k ≤ m)) :=
  ⟨st_AgeingScanDropsOldParts_6, 5000, 9, 2, by decide +kernel, by intro m; revert m; decide +kernel⟩

theorem test_meets_TravelTimerLosesTravel_1 : ∃ (s u : State) (c : Vector Counter 4),
      s.resetLine = false ∧
      s.trv.state ≠ .unknown ∧
      u = reach s.trv.timerDue s ∧
      frameOverdue u = true ∧
      c = countAll .travelUnknown (match s.trv.last with | some x => x.src.val | none => 15) 1 u.now s.trv.index
          s.evc.counters :=
  ⟨st_TravelTimerLosesTravel_1, (reach st_TravelTimerLosesTravel_1.trv.timerDue st_TravelTimerLosesTravel_1),
    (countAll .travelUnknown 14 1 (reach st_TravelTimerLosesTravel_1.trv.timerDue st_TravelTimerLosesTravel_1).now
        st_TravelTimerLosesTravel_1.trv.index st_TravelTimerLosesTravel_1.evc.counters),
    by decide +kernel⟩

theorem test_meets_TravelTimerLosesTravel_2 : ∃ (s u : State),
      s.resetLine = false ∧
      s.trv.state ≠ .unknown ∧
      u = reach s.trv.timerDue s ∧
      frameOverdue u = true ∧
      s.lvc.mode.corrects = false ∧
      s.fdc.mode ≠ .auto ∧
      s.cfg.heatMode ≠ .on :=
  ⟨st_TravelTimerLosesTravel_2, (reach st_TravelTimerLosesTravel_2.trv.timerDue st_TravelTimerLosesTravel_2),
    by decide +kernel⟩

theorem test_meets_TravelTimerLosesTravel_3 : ∃ (s u : State),
      s.resetLine = false ∧
      s.trv.state ≠ .unknown ∧
      u = reach s.trv.timerDue s ∧
      frameOverdue u = true ∧
      s.lvc.mode.corrects = true :=
  ⟨st_TravelTimerLosesTravel_3, (reach st_TravelTimerLosesTravel_3.trv.timerDue st_TravelTimerLosesTravel_3),
    by decide +kernel⟩

theorem test_meets_TravelTimerLosesTravel_4 : ∃ (s u : State),
      s.resetLine = false ∧
      s.trv.state ≠ .unknown ∧
      u = reach s.trv.timerDue s ∧
      frameOverdue u = true ∧
      s.fdc.mode = .auto ∧
      s.fdc.phase = some .feeding ∧
      s.trv.state = .moving :=
  ⟨st_TravelTimerLosesTravel_4, (reach st_TravelTimerLosesTravel_4.trv.timerDue st_TravelTimerLosesTravel_4),
    by decide +kernel⟩

theorem test_meets_TravelTimerLosesTravel_5 : ∃ (s u : State),
      s.resetLine = false ∧
      s.trv.state ≠ .unknown ∧
      u = reach s.trv.timerDue s ∧
      frameOverdue u = true ∧
      s.cfg.heatMode = .on ∧
      (s.trv.state = .moving ∨ s.trv.state = .reversing) :=
  ⟨st_TravelTimerLosesTravel_5, (reach st_TravelTimerLosesTravel_5.trv.timerDue st_TravelTimerLosesTravel_5),
    by decide +kernel⟩

theorem test_meets_TravelTimerLosesTravel_6 : ∃ (s u : State),
      s.resetLine = false ∧
      u = reach s.trv.timerDue s ∧
      (s.trv.state = .unknown ∨ frameOverdue u = false) :=
  ⟨st_HaltInputMovesRunToHalt_3, (reach base.trv.timerDue base), by decide +kernel⟩

theorem test_meets_TravelFrameMovesTravel_1 : ∃ (s : State) (src : Addr) (payload : List Byte) (f : Travel)
    (x : LastFrame),
      Hears s src payload ∧
      parseTravel payload = some f ∧
      s.trv.last = some x ∧
      x.src = src ∧
      x.seq = some f.seq :=
  ⟨st_TravelFrameMovesTravel_1, 14, [0, 0, 1, 104, 0, 0, 1, 104, 9], { left := 360, right := 360, seq := 9 },
    { src := 14, left := 350, right := 340, seq := some 9, time := some 5000 },
    by decide +kernel⟩

theorem test_meets_TravelFrameMovesTravel_2 : ∃ (s : State) (src : Addr) (payload : List Byte) (f : Travel),
      Hears s src payload ∧
      parseTravel payload = some f ∧
      (s.trv.last.all fun x => x.time.isNone && x.seq.isNone) = true ∧
      s.trv.jobOpen = false ∧
      s.trv.motion = [] ∧
      s.trv.state = .unknown :=
  ⟨st_TravelFrameMovesTravel_2, 14, [0, 0, 1, 104, 0, 0, 1, 104, 9], { left := 360, right := 360, seq := 9 },
    by decide +kernel⟩

theorem test_meets_TravelFrameMovesTravel_3 : ∃ (s : State) (src : Addr) (payload : List Byte) (f : Travel)
    (x : LastFrame),
      Hears s src payload ∧
      parseTravel payload = some f ∧
      s.trv.jobOpen = false ∧
      s.trv.last = some x ∧
      x.src = src ∧
      x.seq ≠ some f.seq ∧
      x.time.isSome = true ∧
      jumps f.left x.left = false ∧
      jumps f.right x.right = false :=
  ⟨st_TravelFrameMovesTravel_3, 14, [0, 0, 1, 104, 0, 0, 1, 104, 9], { left := 360, right := 360, seq := 9 },
    { src := 14, left := 350, right := 340, seq := some 1, time := some 5000 },
    by decide +kernel⟩

theorem test_meets_TravelFrameMovesTravel_4 : ∃ (s : State) (src : Addr) (payload : List Byte) (f : Travel)
    (x : LastFrame),
      Hears s src payload ∧
      parseTravel payload = some f ∧
      s.trv.jobOpen = false ∧
      s.trv.last = some x ∧
      x.time.isSome = true ∧
      (x.src ≠ src ∨ jumps f.left x.left = true ∨ jumps f.right x.right = true) ∧
      (x.src ≠ src ∨ x.seq ≠ some f.seq) :=
  ⟨st_TravelFrameMovesTravel_3, 9, [0, 0, 1, 104, 0, 0, 1, 104, 9], { left := 360, right := 360, seq := 9 },
    { src := 14, left := 350, right := 340, seq := some 1, time := some 5000 },
    by decide +kernel⟩

theorem test_meets_TravelFrameMovesTravel_5 : ∃ (s : State) (src : Addr) (payload : List Byte),
      Hears s src payload ∧
      payload.length ≠ 9 :=
  ⟨base, 9, [1], by decide +kernel⟩

theorem test_meets_TravelFrameAdvancesJob_1 : ∃ (s : State) (src : Addr) (payload : List Byte) (f : Travel)
    (x : LastFrame) (l r : TrackCount) (b h : Int) (i : Nat),
      Hears s src payload ∧
      parseTravel payload = some f ∧
      s.trv.jobOpen = true ∧
      s.trv.last = some x ∧
      x.src = src ∧
      x.seq ≠ some f.seq ∧
      jumps f.left x.left = false ∧
      jumps f.right x.right = false ∧
      s.trv.jobBase = some (l, r) ∧
      b = interpolate (f.left - l).toInt (f.right - r).toInt s.cfg.centre (s.item 5 * 10) (s.item 6 * 10) ∧
      h = max s.trv.highWater b ∧
      i = min max24 (s.trv.baseIndex + ((h - s.trv.baseTravel) / s.item 7).toNat) :=
  ⟨st_TravelFrameAdvancesJob_1, 14, [0, 0, 1, 104, 0, 0, 1, 104, 9], { left := 360, right := 360, seq := 9 },
    { src := 14, left := 350, right := 340, seq := some 1, time := some 5000 }, 100, 100, 260, 260, 1,
    by decide +kernel⟩

theorem test_meets_TravelFrameAdvancesJob_2 : ∃ (s : State) (src : Addr) (payload : List Byte) (f : Travel)
    (x : LastFrame),
      Hears s src payload ∧
      parseTravel payload = some f ∧
      s.trv.jobOpen = true ∧
      accumulates s = true ∧
      s.msi.openIndex ≤ s.trv.index ∧
      s.trv.index < max24 ∧
      s.trv.last = some x ∧
      (x.src ≠ src ∨ jumps f.left x.left = true ∨ jumps f.right x.right = true) ∧
      (x.src ≠ src ∨ x.seq ≠ some f.seq) :=
  ⟨st_TravelFrameAdvancesJob_2, 9, [0, 0, 1, 104, 0, 0, 1, 104, 9], { left := 360, right := 360, seq := 9 },
    { src := 14, left := 350, right := 340, seq := some 1, time := some 5000 },
    by decide +kernel⟩

theorem test_meets_InvalidSampleFaultsZone_1 : ∃ (s : State) (r : Option Int),
      s.resetLine = false ∧
      HeatLaw s ∧
      (∀ v ∈ r, v < -200 ∨ 4500 < v) :=
  ⟨st_InvalidSampleFaultsZone_1, some (-201), by decide +kernel⟩

theorem test_meets_InvalidSampleFaultsZone_2 : ∃ (s u : State) (z : ZoneId),
      s.resetLine = false ∧
      HeatLaw s ∧
      u = reach (s.zone z).timeoutDue s :=
  ⟨st_InvalidSampleFaultsZone_1, reach (base.zone 1).timeoutDue base, 1, by decide +kernel⟩

theorem test_meets_ZoneFollowsReading_1 : ∃ (s : State) (z : ZoneId) (v S : Int),
      s.resetLine = false ∧
      -200 ≤ v ∧
      v ≤ 4500 ∧
      s.cfg.node = .run ∧
      s.cfg.heatMode ≠ .off ∧
      S = s.cfg.setpoints[z] - (if s.cfg.heatMode = .standby then s.item 17 else 0) ∧
      HeatLaw s ∧
      ((s.zone z).state = .off ∨ (s.zone z).state = .idle ∨ (s.zone z).state = .want) :=
  ⟨st_ZoneFollowsReading_1, 1, 1360, 140, by decide +kernel⟩

theorem test_meets_ZoneFollowsReading_2 : ∃ (s : State) (z : ZoneId) (v S : Int),
      s.resetLine = false ∧
      -200 ≤ v ∧
      v ≤ 4500 ∧
      s.cfg.node = .run ∧
      s.cfg.heatMode ≠ .off ∧
      S = s.cfg.setpoints[z] - (if s.cfg.heatMode = .standby then s.item 17 else 0) ∧
      (s.zone z).state = .claiming ∧
      s.gsu.claim.map (·.zone) = some z ∧
      (s.zone z).element = false :=
  ⟨st_ZoneFollowsReading_2, 1, 1801, 140, by decide +kernel⟩

theorem test_meets_ZoneFollowsReading_3 : ∃ (s : State) (z : ZoneId) (v S : Int),
      s.resetLine = false ∧
      -200 ≤ v ∧
      v ≤ 4500 ∧
      s.cfg.node = .run ∧
      s.cfg.heatMode ≠ .off ∧
      S = s.cfg.setpoints[z] - (if s.cfg.heatMode = .standby then s.item 17 else 0) ∧
      (s.zone z).state = .on ∧
      (s.zone z).element = true :=
  ⟨st_ZoneFollowsReading_3, 1, 1400, 140, by decide +kernel⟩

theorem test_meets_ZoneFollowsReading_4 : ∃ (s : State) (z : ZoneId) (v S : Int),
      s.resetLine = false ∧
      -200 ≤ v ∧
      v ≤ 4500 ∧
      s.cfg.node = .run ∧
      s.cfg.heatMode ≠ .off ∧
      S = s.cfg.setpoints[z] - (if s.cfg.heatMode = .standby then s.item 17 else 0) ∧
      (s.zone z).state = .shed :=
  ⟨st_ZoneFollowsReading_4, 1, 1360, 140, by decide +kernel⟩

theorem test_meets_ZoneFollowsReading_5 : ∃ (s : State) (z : ZoneId) (v S : Int),
      s.resetLine = false ∧
      -200 ≤ v ∧
      v ≤ 4500 ∧
      s.cfg.node = .run ∧
      s.cfg.heatMode ≠ .off ∧
      S = s.cfg.setpoints[z] - (if s.cfg.heatMode = .standby then s.item 17 else 0) ∧
      (s.zone z).state = .overtemp :=
  ⟨st_ZoneFollowsReading_5, 1, 1400, 140, by decide +kernel⟩

theorem test_meets_ZoneFollowsReading_6 : ∃ (s : State) (z : ZoneId) (v S : Int),
      s.resetLine = false ∧
      -200 ≤ v ∧
      v ≤ 4500 ∧
      s.cfg.node = .run ∧
      s.cfg.heatMode ≠ .off ∧
      S = s.cfg.setpoints[z] - (if s.cfg.heatMode = .standby then s.item 17 else 0) ∧
      (s.zone z).state = .fault :=
  ⟨st_ZoneFollowsReading_6, 1, 1360, 140, by decide +kernel⟩

theorem test_meets_ZoneFollowsReading_7 : ∃ (s : State) (z : ZoneId) (v : Int),
      s.resetLine = false ∧
      -200 ≤ v ∧
      v ≤ 4500 ∧
      (s.cfg.node ≠ .run ∨ s.cfg.heatMode = .off) ∧
      ((s.zone z).state = .off ∨ ((s.zone z).state = .fault ∧ (s.zone z).latch = false)) :=
  ⟨st_ZoneFollowsReading_7, 1, 4500, by decide +kernel⟩

theorem test_meets_OfferMakesClaimAndReadyIsJudged_1 : ∃ (s : State) (z : ZoneId) (v : Int) (need : Nat),
      s.resetLine = false ∧
      -200 ≤ v ∧
      v ≤ 4500 ∧
      s.cfg.node = .run ∧
      s.cfg.heatMode = .on ∧
      (s.zone z).state = .want ∧
      v < (s.cfg.setpoints[z] - s.item 14) * 10 ∧
      v ≤ 2600 ∧
      v ≤ (s.cfg.setpoints[z] + 40) * 10 ∧
      (∀ y, y ≠ z → (s.zone y).state = .off ∨ (s.zone y).state = .idle ∨ (s.zone y).state = .on) ∧
      ownDemandYoung s = true ∧
      s.gsu.claim = none ∧
      s.gsu.backOff = none ∧
      claimWaits s = false ∧
      canQueueU s = true ∧
      withinLimit s (committedDraw s + s.power z) = true ∧
      need = min 255 (((s.cfg.setpoints[z] * 10 - v).toNat + 5) / 10 + (if s.msi.lastCold then (s.item 18).toNat else
          0)) :=
  ⟨st_OfferMakesClaimAndReadyIsJudged_1, 1, 1000, 40, by decide +kernel⟩

theorem test_meets_OfferMakesClaimAndReadyIsJudged_2 : ∃ (s : State) (z : ZoneId) (v S : Int),
      s.resetLine = false ∧
      -200 ≤ v ∧
      v ≤ 4500 ∧
      S = s.cfg.setpoints[z] - (if s.cfg.heatMode = .standby then s.item 17 else 0) ∧
      v < (S - s.item 15) * 10 ∧
      ((s.zone z).state = .off ∨ (s.zone z).state = .idle ∨ (s.zone z).state = .want ∨ (s.zone z).state = .claiming) :=
  ⟨st_OfferMakesClaimAndReadyIsJudged_2, 1, 1299, 140, by decide +kernel⟩

theorem test_meets_OfferMakesClaimAndReadyIsJudged_3 : ∃ (s : State) (z : ZoneId) (v S : Int),
      (s.resetLine = false ∧ -200 ≤ v ∧ v ≤ 4500 ∧ s.cfg.node = .run ∧ s.cfg.heatMode ≠ .off ∧
          S = s.cfg.setpoints[z] - (if s.cfg.heatMode = .standby then s.item 17 else 0) ∧ S * 10 ≤ v ∧
          v ≤ (S + 40) * 10 ∧ v ≤ 2600 ∧ (s.zone z).state = .idle ∧ 0 ≤ s.item 14) ∧
      (∀ y, y ≠ z → (s.zone y).state = .fault ∨ (s.zone y).rejoining = true ∨ ((s.zone y).reading.any fun r =>
        decide ((s.cfg.setpoints[y] - (if s.cfg.heatMode = .standby then s.item 17 else
            0) - s.item 15) * 10 ≤ r)) = true) ∧
      0 ≤ s.item 15 :=
  ⟨st_OfferMakesClaimAndReadyIsJudged_3, 1, 1400, 140,
    by decide +kernel, by intro y; revert y; decide +kernel, by decide +kernel⟩

theorem test_meets_HeatSetAndStandbyTimerAct_1 : ∃ (s : State) (src : Addr) (mode a1 a0 b1 b0 c1 c0 d1 d0 : Byte)
    (v : Vector Int 4),
      Takes s src [mode, a1, a0, b1, b0, c1, c0, d1, d0] ∧
      s.cfg.node ≠ .setup ∧
      v = #v[s16 a1 a0, s16 b1 b0, s16 c1 c0, s16 d1 d0] ∧
      mode = 0 :=
  ⟨base, 9, 0, 0, 200, 0, 80, 0, 0, 255, 255, #v[200, 80, 0, -1], by decide +kernel⟩

theorem test_meets_HeatSetAndStandbyTimerAct_2 : ∃ (s : State) (src : Addr) (mode a1 a0 b1 b0 c1 c0 d1 d0 : Byte)
    (v : Vector Int 4),
      Takes s src [mode, a1, a0, b1, b0, c1, c0, d1, d0] ∧
      s.cfg.node ≠ .setup ∧
      v = #v[s16 a1 a0, s16 b1 b0, s16 c1 c0, s16 d1 d0] ∧
      mode = 2 :=
  ⟨base, 9, 2, 0, 200, 0, 80, 0, 0, 255, 255, #v[200, 80, 0, -1], by decide +kernel⟩

theorem test_meets_HeatSetAndStandbyTimerAct_3 : ∃ (s : State) (src : Addr) (mode a1 a0 b1 b0 c1 c0 d1 d0 : Byte)
    (v : Vector Int 4),
      Takes s src [mode, a1, a0, b1, b0, c1, c0, d1, d0] ∧
      s.cfg.node ≠ .setup ∧
      v = #v[s16 a1 a0, s16 b1 b0, s16 c1 c0, s16 d1 d0] ∧
      mode = 3 :=
  ⟨base, 9, 3, 0, 200, 0, 80, 0, 0, 255, 255, #v[200, 80, 0, -1], by decide +kernel⟩

theorem test_meets_HeatSetAndStandbyTimerAct_4 : ∃ (s : State) (src : Addr) (mode a1 a0 b1 b0 c1 c0 d1 d0 : Byte)
    (v : Vector Int 4),
      Takes s src [mode, a1, a0, b1, b0, c1, c0, d1, d0] ∧
      s.cfg.node ≠ .setup ∧
      v = #v[s16 a1 a0, s16 b1 b0, s16 c1 c0, s16 d1 d0] ∧
      mode = 1 :=
  ⟨st_HeatSetAndStandbyTimerAct_4, 9, 1, 0, 200, 0, 80, 0, 0, 255, 255, #v[200, 80, 0, -1], by decide +kernel⟩

theorem test_meets_HeatSetAndStandbyTimerAct_5 : ∃ (s : State) (src : Addr) (mode a1 a0 b1 b0 c1 c0 d1 d0 : Byte),
      Takes s src [mode, a1, a0, b1, b0, c1, c0, d1, d0] ∧
      s.cfg.node ≠ .setup ∧
      3 < mode.toNat :=
  ⟨base, 9, 4, 0, 200, 0, 80, 0, 0, 255, 255, by decide +kernel⟩

theorem test_meets_HeatSetAndStandbyTimerAct_6 : ∃ (s : State) (src : Addr) (payload : List Byte),
      Takes s src payload ∧
      s.cfg.node ≠ .setup ∧
      payload.length ≠ 9 :=
  ⟨base, 9, [0], by decide +kernel⟩

theorem test_meets_HeatSetAndStandbyTimerAct_7 : ∃ (s : State) (x : Time),
      s.resetLine = false ∧
      s.zht.standbySince = some x :=
  ⟨st_HeatSetAndStandbyTimerAct_7, 4960, by decide +kernel⟩

theorem test_meets_HeatSetAndStandbyTimerAct_8 : ∃ (s : State),
      s.zht.standbySince = none :=
  ⟨st_HeatSetAndStandbyTimerAct_8, by decide +kernel⟩

theorem test_meets_ClaimWindowGrantsOrWithdraws_1 : ∃ (s u : State) (c : OwnClaim) (w : Time),
      s.resetLine = false ∧
      HeatLaw s ∧
      s.gsu.claim = some c ∧
      c.window = some w ∧
      u = reach w s ∧
      c.power = s.power c.zone ∧
      0 ≤ s.item 13 ∧
      ((committedDraw u + rankedSum u c : Nat) : Int) ≤ s.item 12 - s.item 13 :=
  ⟨st_ClaimWindowGrantsOrWithdraws_1, (reach 5005 st_ClaimWindowGrantsOrWithdraws_1),
    { zone := 2, power := 30, need := 9, window := some 5005 }, 5005,
    by decide +kernel⟩

theorem test_meets_ClaimWindowGrantsOrWithdraws_2 : ∃ (s u : State) (c : OwnClaim) (w : Time),
      s.resetLine = false ∧
      HeatLaw s ∧
      s.gsu.claim = some c ∧
      c.window = some w ∧
      u = reach w s ∧
      s.item 12 - s.item 13 < ((committedDraw u + rankedSum u c : Nat) : Int) :=
  ⟨st_ClaimWindowGrantsOrWithdraws_2, (reach 5005 st_ClaimWindowGrantsOrWithdraws_2),
    { zone := 2, power := 30, need := 9, window := some 5005 }, 5005,
    by decide +kernel⟩

theorem test_meets_ClaimWindowGrantsOrWithdraws_3 : ∃ (s : State),
      s.gsu.claim.all (fun c => c.window.isNone) = true :=
  ⟨st_ClaimWindowGrantsOrWithdraws_3, by decide +kernel⟩

theorem test_meets_BackOffAndHoldOffEnd_1 : ∃ (s : State) (x : Time),
      s.resetLine = false ∧
      s.gsu.backOff = some x :=
  ⟨st_BackOffAndHoldOffEnd_1, 5003, by decide +kernel⟩

theorem test_meets_BackOffAndHoldOffEnd_2 : ∃ (s : State),
      s.gsu.backOff = none :=
  ⟨st_BackOffAndHoldOffEnd_2, by decide +kernel⟩

theorem test_meets_BackOffAndHoldOffEnd_3 : ∃ (s u : State) (x : Time) (z : ZoneId),
      s.resetLine = false ∧
      s.gsu.holdOff = some x ∧
      u = (reach x s).setGsu { s.gsu with holdOff := none } ∧
      overloaded u = true ∧
      chosenToShed u = some s.self ∧
      shedZone u = some z :=
  ⟨st_BackOffAndHoldOffEnd_3,
    (let x := (5007 : Time); (reach x st_BackOffAndHoldOffEnd_3).setGsu
        { st_BackOffAndHoldOffEnd_3.gsu with holdOff := none }),
    5007, 2,
    by decide +kernel⟩

theorem test_meets_BackOffAndHoldOffEnd_4 : ∃ (s u : State) (x : Time),
      s.resetLine = false ∧
      s.gsu.holdOff = some x ∧
      u = (reach x s).setGsu { s.gsu with holdOff := none } ∧
      (overloaded u = false ∨ chosenToShed u ≠ some s.self) :=
  ⟨st_BackOffAndHoldOffEnd_4,
    (let x := (5007 : Time); (reach x st_BackOffAndHoldOffEnd_4).setGsu
        { st_BackOffAndHoldOffEnd_4.gsu with holdOff := none }),
    5007,
    by decide +kernel⟩

theorem test_meets_BackOffAndHoldOffEnd_5 : ∃ (s : State),
      s.gsu.holdOff = none :=
  ⟨st_BackOffAndHoldOffEnd_5, by decide +kernel⟩

theorem test_meets_DemandTimersAct_1 : ∃ (s : State),
      s.resetLine = false ∧
      s.active = true :=
  ⟨base, by decide +kernel⟩

theorem test_meets_DemandTimersAct_2 : ∃ (s : State),
      s.resetLine = false ∧
      s.active = false :=
  ⟨st_DemandTimersAct_2, by decide +kernel⟩

theorem test_meets_DemandTimersAct_3 : ∃ (s : State) (x : Time),
      s.resetLine = false ∧
      s.gsu.lastCarried = some x :=
  ⟨st_DemandTimersAct_3, 1000, by decide +kernel⟩

theorem test_meets_DemandTimersAct_4 : ∃ (s : State),
      s.gsu.lastCarried = none :=
  ⟨st_DemandTimersAct_4, by decide +kernel⟩

theorem test_meets_SensorReadingsAreStored_1 : ∃ (s : State) (v : Int),
      s.resetLine = false ∧
      s.cfg.straps.lev.isSome = true ∧
      200 ≤ v ∧
      v ≤ 15000 :=
  ⟨st_SensorReadingsAreStored_1, 200, by decide +kernel⟩

theorem test_meets_SensorReadingsAreStored_2 : ∃ (s : State) (r : Option Int),
      (s.cfg.straps.lev = none ∨ (∀ v ∈ r, v < 200 ∨ 15000 < v)) :=
  ⟨st_SensorReadingsAreStored_1, some 15001, by decide +kernel⟩

theorem test_meets_SensorReadingsAreStored_3 : ∃ (s : State) (v : Int),
      s.resetLine = false ∧
      s.cfg.straps.lev.isSome = true ∧
      -1000 ≤ v ∧
      v ≤ 1000 :=
  ⟨st_SensorReadingsAreStored_1, -1000, by decide +kernel⟩

theorem test_meets_SensorReadingsAreStored_4 : ∃ (s : State) (r : Option Int),
      (s.cfg.straps.lev = none ∨ (∀ v ∈ r, v < -1000 ∨ 1000 < v)) :=
  ⟨st_SensorReadingsAreStored_1, some 1001, by decide +kernel⟩

theorem test_meets_SensorReadingsAreStored_5 : ∃ (s : State) (v : Int),
      s.resetLine = false ∧
      s.cfg.straps.feed.isSome = true ∧
      0 ≤ v ∧
      v ≤ 1000 :=
  ⟨st_SensorReadingsAreStored_1, 1000, by decide +kernel⟩

theorem test_meets_SensorReadingsAreStored_6 : ∃ (s : State) (r : Option Int),
      (s.cfg.straps.feed = none ∨ (∀ v ∈ r, v < 0 ∨ 1000 < v)) :=
  ⟨st_SensorReadingsAreStored_1, some (-1), by decide +kernel⟩

theorem test_meets_LevellingCycleDrivesPausesOrHolds_1 : ∃ (s : State),
      s.resetLine = false ∧
      s.lvc.mode.corrects = false :=
  ⟨st_LevellingCycleDrivesPausesOrHolds_1, by decide +kernel⟩

theorem test_meets_LevellingCycleDrivesPausesOrHolds_2 : ∃ (s u : State) (r : HoldReason),
      s.resetLine = false ∧
      u = (reach s.lvc.cycleDue s).setLvc { s.lvc with cycleDue := s.lvc.cycleDue + 50 } ∧
      s.lvc.mode.corrects = true ∧
      ((s.lvc.mode = .slope ∧ partnerInGrade u = false ∧ r = .partner) ∨
        ((s.lvc.mode = .slope → partnerInGrade u = true) ∧
          ((s.trv.state = .unknown ∧ r = .travel) ∨ (s.trv.state ≠ .unknown ∧ cycleError u = none ∧ r = .sensor)))) :=
  ⟨st_LevellingCycleDrivesPausesOrHolds_2,
    ((reach st_LevellingCycleDrivesPausesOrHolds_2.lvc.cycleDue st_LevellingCycleDrivesPausesOrHolds_2).setLvc
        { st_LevellingCycleDrivesPausesOrHolds_2.lvc with cycleDue :=
                                                            st_LevellingCycleDrivesPausesOrHolds_2.lvc.cycleDue + 50 }),
    .sensor,
    by decide +kernel⟩

theorem test_meets_LevellingCycleDrivesPausesOrHolds_3 : ∃ (s u : State) (e T : Int),
      s.resetLine = false ∧
      u = (reach s.lvc.cycleDue s).setLvc { s.lvc with cycleDue := s.lvc.cycleDue + 50 } ∧
      s.lvc.mode.corrects = true ∧
      (s.lvc.mode = .slope → partnerInGrade u = true) ∧
      s.trv.state = .moving ∧
      s.lvc.trial = none ∧
      cycleError u = some e ∧
      T = target s.lvc.gains e :=
  ⟨st_LevellingCycleDrivesPausesOrHolds_3,
    ((reach st_LevellingCycleDrivesPausesOrHolds_3.lvc.cycleDue st_LevellingCycleDrivesPausesOrHolds_3).setLvc
        { st_LevellingCycleDrivesPausesOrHolds_3.lvc with cycleDue :=
                                                            st_LevellingCycleDrivesPausesOrHolds_3.lvc.cycleDue + 50 }),
    43, 500,
    by decide +kernel⟩

theorem test_meets_LevellingCycleDrivesPausesOrHolds_4 : ∃ (s u : State) (e : Int),
      s.resetLine = false ∧
      u = (reach s.lvc.cycleDue s).setLvc { s.lvc with cycleDue := s.lvc.cycleDue + 50 } ∧
      s.lvc.mode.corrects = true ∧
      (s.lvc.mode = .slope → partnerInGrade u = true) ∧
      (s.trv.state = .stopped ∨ s.trv.state = .reversing) ∧
      s.lvc.trial = none ∧
      cycleError u = some e :=
  ⟨st_LevellingCycleDrivesPausesOrHolds_4,
    ((reach st_LevellingCycleDrivesPausesOrHolds_4.lvc.cycleDue st_LevellingCycleDrivesPausesOrHolds_4).setLvc
        { st_LevellingCycleDrivesPausesOrHolds_4.lvc with cycleDue :=
                                                            st_LevellingCycleDrivesPausesOrHolds_4.lvc.cycleDue + 50 }),
    43,
    by decide +kernel⟩

theorem test_meets_LevellingCycleDrivesPausesOrHolds_5 : ∃ (g : Gains),
      GainsLaw g :=
  ⟨{ d := 5, p := 10, uMin := 0, uMax := 0, slew := 10 }, by decide +kernel⟩

theorem test_meets_LevellingCycleDrivesPausesOrHolds_6 : ∃ (s : State) (l : List (Int × Int)) (w : Int),
      l = countedHeads s ∧
      w = (l.map (·.1)).sum ∧
      s.lvc.mode = .grade ∧
      s.item 26 ≤ l.length ∧
      0 < l.length :=
  ⟨st_LevellingCycleDrivesPausesOrHolds_3, [(1, 4100), (2, 4150)], 3, by decide +kernel⟩

theorem test_meets_LevellingCycleDrivesPausesOrHolds_7 : ∃ (s : State) (v : Int) (since : Time) (n : Int),
      s.lvc.mode = .slope ∧
      s.lvc.incl = some (v, since) ∧
      s.age since ≤ 150 ∧
      n = (if s.cfg.straps.lev = some .right then s.lvc.slope - v else v - s.lvc.slope) * s.item 27 :=
  ⟨st_LevellingCycleDrivesPausesOrHolds_7, 20, 5000, -3200, by decide +kernel⟩

theorem test_meets_TrialCycleDrivesTrialBesideGuard_1 : ∃ (s u : State) (x : Trial) (e O G : Int),
      s.resetLine = false ∧
      u = (reach s.lvc.cycleDue s).setLvc { s.lvc with cycleDue := s.lvc.cycleDue + 50 } ∧
      s.lvc.mode.corrects = true ∧
      (s.lvc.mode = .slope → partnerInGrade u = true) ∧
      cycleError u = some e ∧
      s.lvc.trial = some x ∧
      O = slewed x.gains.slew s.lvc.slew (target x.gains e) ∧
      G = slewed s.lvc.gains.slew x.guardSlew (target s.lvc.gains e) ∧
      s.trv.state = .moving ∧
      ((O - G).natAbs : Int) ≤ x.w :=
  ⟨st_TrialCycleDrivesTrialBesideGuard_1,
    ((reach st_TrialCycleDrivesTrialBesideGuard_1.lvc.cycleDue st_TrialCycleDrivesTrialBesideGuard_1).setLvc
        { st_TrialCycleDrivesTrialBesideGuard_1.lvc with cycleDue := st_TrialCycleDrivesTrialBesideGuard_1.lvc.cycleDue
                                                           + 50 }),
    { gains := { d := 5, p := 40, uMin := 100, uMax := 500, slew := 10 }, w := 100, k := 4, strikes := 0,
      cycles := 65533, guardSlew := 0, trialDuty := 0, guardDuty := 0 },
    43, 10, 100,
    by decide +kernel⟩

theorem test_meets_TrialCycleDrivesTrialBesideGuard_2 : ∃ (s u : State) (x : Trial) (e O G : Int),
      s.resetLine = false ∧
      u = (reach s.lvc.cycleDue s).setLvc { s.lvc with cycleDue := s.lvc.cycleDue + 50 } ∧
      s.lvc.mode.corrects = true ∧
      (s.lvc.mode = .slope → partnerInGrade u = true) ∧
      cycleError u = some e ∧
      s.lvc.trial = some x ∧
      O = slewed x.gains.slew s.lvc.slew (target x.gains e) ∧
      G = slewed s.lvc.gains.slew x.guardSlew (target s.lvc.gains e) ∧
      s.trv.state = .moving ∧
      x.w < ((O - G).natAbs : Int) ∧
      x.strikes + 1 < x.k :=
  ⟨st_TrialCycleDrivesTrialBesideGuard_2,
    ((reach st_TrialCycleDrivesTrialBesideGuard_2.lvc.cycleDue st_TrialCycleDrivesTrialBesideGuard_2).setLvc
        { st_TrialCycleDrivesTrialBesideGuard_2.lvc with cycleDue := st_TrialCycleDrivesTrialBesideGuard_2.lvc.cycleDue
                                                           + 50 }),
    { gains := { d := 5, p := 40, uMin := 100, uMax := 500, slew := 10 }, w := 50, k := 4, strikes := 0,
      cycles := 65533, guardSlew := 0, trialDuty := 0, guardDuty := 0 },
    43, 10, 100,
    by decide +kernel⟩

theorem test_meets_TrialCycleDrivesTrialBesideGuard_3 : ∃ (s u : State) (x : Trial) (e O G : Int),
      s.resetLine = false ∧
      u = (reach s.lvc.cycleDue s).setLvc { s.lvc with cycleDue := s.lvc.cycleDue + 50 } ∧
      s.lvc.mode.corrects = true ∧
      (s.lvc.mode = .slope → partnerInGrade u = true) ∧
      cycleError u = some e ∧
      s.lvc.trial = some x ∧
      O = slewed x.gains.slew s.lvc.slew (target x.gains e) ∧
      G = slewed s.lvc.gains.slew x.guardSlew (target s.lvc.gains e) ∧
      s.trv.state = .moving ∧
      x.w < ((O - G).natAbs : Int) ∧
      x.strikes + 1 = x.k ∧
      s.lvc.paused = false :=
  ⟨st_TrialCycleDrivesTrialBesideGuard_3,
    ((reach st_TrialCycleDrivesTrialBesideGuard_3.lvc.cycleDue st_TrialCycleDrivesTrialBesideGuard_3).setLvc
        { st_TrialCycleDrivesTrialBesideGuard_3.lvc with cycleDue := st_TrialCycleDrivesTrialBesideGuard_3.lvc.cycleDue
                                                           + 50 }),
    { gains := { d := 5, p := 40, uMin := 100, uMax := 500, slew := 10 }, w := 50, k := 4, strikes := 3,
      cycles := 65533, guardSlew := 0, trialDuty := 0, guardDuty := 0 },
    43, 10, 100,
    by decide +kernel⟩

theorem test_meets_TrialCycleDrivesTrialBesideGuard_4 : ∃ (s u : State) (x : Trial) (e O G : Int),
      s.resetLine = false ∧
      u = (reach s.lvc.cycleDue s).setLvc { s.lvc with cycleDue := s.lvc.cycleDue + 50 } ∧
      s.lvc.mode.corrects = true ∧
      (s.lvc.mode = .slope → partnerInGrade u = true) ∧
      cycleError u = some e ∧
      s.lvc.trial = some x ∧
      O = slewed x.gains.slew s.lvc.slew (target x.gains e) ∧
      G = slewed s.lvc.gains.slew x.guardSlew (target s.lvc.gains e) ∧
      (s.trv.state = .stopped ∨ s.trv.state = .reversing) :=
  ⟨st_TrialCycleDrivesTrialBesideGuard_4,
    ((reach st_TrialCycleDrivesTrialBesideGuard_4.lvc.cycleDue st_TrialCycleDrivesTrialBesideGuard_4).setLvc
        { st_TrialCycleDrivesTrialBesideGuard_4.lvc with cycleDue := st_TrialCycleDrivesTrialBesideGuard_4.lvc.cycleDue
                                                           + 50 }),
    { gains := { d := 5, p := 40, uMin := 100, uMax := 500, slew := 10 }, w := 50, k := 4, strikes := 0,
      cycles := 65533, guardSlew := 0, trialDuty := 0, guardDuty := 0 },
    43, 10, 100,
    by decide +kernel⟩

theorem test_meets_WatchAndJogEnd_1 : ∃ (s u : State) (x : Time),
      s.resetLine = false ∧
      s.lvc.partnerWatch = some x ∧
      u = reach x s ∧
      s.lvc.mode = .slope ∧
      partnerInGrade u = false :=
  ⟨st_WatchAndJogEnd_1, (reach 5301 st_WatchAndJogEnd_1), 5301, by decide +kernel⟩

theorem test_meets_WatchAndJogEnd_2 : ∃ (s u : State) (x since : Time) (a : Addr) (l : LevelStatus),
      s.resetLine = false ∧
      s.lvc.partnerWatch = some x ∧
      u = reach x s ∧
      s.lvc.mode = .slope ∧
      partner u = some (a, l) ∧
      l.mode = 2 ∧
      (s.entry a).level = some (l, since) :=
  ⟨st_WatchAndJogEnd_2, (reach 5004 st_WatchAndJogEnd_2), 5004, 5000, 9,
    { side := 2, mode := 2, error := 0, duty := 0, refValid := true, trial := false },
    by decide +kernel⟩

theorem test_meets_WatchAndJogEnd_3 : ∃ (s : State),
      s.lvc.partnerWatch = none :=
  ⟨st_WatchAndJogEnd_3, by decide +kernel⟩

theorem test_meets_WatchAndJogEnd_4 : ∃ (s : State) (j : Jog),
      s.resetLine = false ∧
      s.lvc.jog = some j :=
  ⟨st_WatchAndJogEnd_4, { duty := -300, endTime := 5040 }, by decide +kernel⟩

theorem test_meets_WatchAndJogEnd_5 : ∃ (s : State),
      s.lvc.jog = none :=
  ⟨st_WatchAndJogEnd_5, by decide +kernel⟩

theorem test_meets_StatusTimersQueueStatus_1 : ∃ (s : State) (d : Side),
      s.resetLine = false ∧
      s.cfg.straps.lev = some d ∧
      s.active = true :=
  ⟨st_StatusTimersQueueStatus_1, .left, by decide +kernel⟩

theorem test_meets_StatusTimersQueueStatus_2 : ∃ (s : State) (d : Side),
      s.resetLine = false ∧
      s.cfg.straps.lev = some d ∧
      s.active = false :=
  ⟨st_StatusTimersQueueStatus_2, .left, by decide +kernel⟩

theorem test_meets_StatusTimersQueueStatus_3 : ∃ (s : State),
      s.cfg.straps.lev = none :=
  ⟨st_StatusTimersQueueStatus_3, by decide +kernel⟩

theorem test_meets_StatusTimersQueueStatus_4 : ∃ (s : State) (d : Side),
      s.resetLine = false ∧
      s.cfg.straps.feed = some d ∧
      s.active = true :=
  ⟨st_StatusTimersQueueStatus_1, .right, by decide +kernel⟩

theorem test_meets_StatusTimersQueueStatus_5 : ∃ (s : State) (d : Side),
      s.resetLine = false ∧
      s.cfg.straps.feed = some d ∧
      s.active = false :=
  ⟨st_StatusTimersQueueStatus_2, .right, by decide +kernel⟩

theorem test_meets_StatusTimersQueueStatus_6 : ∃ (s : State),
      s.cfg.straps.feed = none :=
  ⟨st_StatusTimersQueueStatus_6, by decide +kernel⟩

theorem test_meets_FeedEvaluationFormsDuties_1 : ∃ (s : State),
      s.resetLine = false ∧
      s.cfg.straps.feed = none :=
  ⟨st_StatusTimersQueueStatus_6, by decide +kernel⟩

theorem test_meets_FeedEvaluationFormsDuties_2 : ∃ (s u : State) (L : Option Int),
      s.resetLine = false ∧
      s.cfg.straps.feed.isSome = true ∧
      u = (reach s.fdc.evalDue s).setFdc { s.fdc with evalDue := s.fdc.evalDue + 100 } ∧
      L = (s.fdc.level.bind fun x => if u.age x.2 ≤ 300 then some x.1 else none) ∧
      s.fdc.mode = .off :=
  ⟨st_FeedEvaluationFormsDuties_2,
    ((reach st_FeedEvaluationFormsDuties_2.fdc.evalDue st_FeedEvaluationFormsDuties_2).setFdc
        { st_FeedEvaluationFormsDuties_2.fdc with evalDue := st_FeedEvaluationFormsDuties_2.fdc.evalDue + 100 }),
    none,
    by decide +kernel⟩

theorem test_meets_FeedEvaluationFormsDuties_3 : ∃ (s u : State) (L : Option Int),
      s.resetLine = false ∧
      s.cfg.straps.feed.isSome = true ∧
      u = (reach s.fdc.evalDue s).setFdc { s.fdc with evalDue := s.fdc.evalDue + 100 } ∧
      L = (s.fdc.level.bind fun x => if u.age x.2 ≤ 300 then some x.1 else none) ∧
      s.fdc.mode = .manual :=
  ⟨st_FeedEvaluationFormsDuties_3,
    ((reach st_FeedEvaluationFormsDuties_3.fdc.evalDue st_FeedEvaluationFormsDuties_3).setFdc
        { st_FeedEvaluationFormsDuties_3.fdc with evalDue := st_FeedEvaluationFormsDuties_3.fdc.evalDue + 100 }),
    none,
    by decide +kernel⟩

theorem test_meets_FeedEvaluationFormsDuties_4 : ∃ (s u : State) (p : Bool) (L : Option Int) (c : Int),
      s.resetLine = false ∧
      s.cfg.straps.feed.isSome = true ∧
      u = (reach s.fdc.evalDue s).setFdc { s.fdc with evalDue := s.fdc.evalDue + 100 } ∧
      L = (s.fdc.level.bind fun x => if u.age x.2 ≤ 300 then some x.1 else none) ∧
      s.fdc.mode = .auto ∧
      (s.fdc.phase = some .feeding ∨ (s.fdc.phase = some .runOn ∧
        ((L = none ∧ p = false) ∨ (∃ l ∈ L, l < s.cfg.feedSetpoint)))) ∧
      c = (match L with
        | some l => if s.cfg.feedSetpoint ≤ l then s.item 36
          else if l ≤ s.cfg.feedSetpoint - s.item 35 then 1000
          else s.item 36 + (2 * ((s.cfg.feedSetpoint - l) * (1000 - s.item 36)) + s.item 35) / (2 * s.item 35)
        | none => if p then s.item 36 else 1000) :=
  ⟨st_FeedEvaluationFormsDuties_4,
    ((reach st_FeedEvaluationFormsDuties_4.fdc.evalDue st_FeedEvaluationFormsDuties_4).setFdc
        { st_FeedEvaluationFormsDuties_4.fdc with evalDue := st_FeedEvaluationFormsDuties_4.fdc.evalDue + 100 }),
    false, none, 1000,
    by decide +kernel⟩

theorem test_meets_FeedEvaluationFormsDuties_5 : ∃ (s u : State) (p : Bool) (L : Option Int),
      s.resetLine = false ∧
      s.cfg.straps.feed.isSome = true ∧
      u = (reach s.fdc.evalDue s).setFdc { s.fdc with evalDue := s.fdc.evalDue + 100 } ∧
      L = (s.fdc.level.bind fun x => if u.age x.2 ≤ 300 then some x.1 else none) ∧
      s.fdc.mode = .auto ∧
      s.fdc.phase = some .runOn ∧
      ((L = none ∧ p = true) ∨ (∃ l ∈ L, s.cfg.feedSetpoint ≤ l)) :=
  ⟨st_FeedEvaluationFormsDuties_5,
    ((reach st_FeedEvaluationFormsDuties_5.fdc.evalDue st_FeedEvaluationFormsDuties_5).setFdc
        { st_FeedEvaluationFormsDuties_5.fdc with evalDue := st_FeedEvaluationFormsDuties_5.fdc.evalDue + 100 }),
    true, none,
    by decide +kernel⟩

theorem test_meets_FeedEvaluationFormsDuties_6 : ∃ (s u : State) (L : Option Int),
      s.resetLine = false ∧
      s.cfg.straps.feed.isSome = true ∧
      u = (reach s.fdc.evalDue s).setFdc { s.fdc with evalDue := s.fdc.evalDue + 100 } ∧
      L = (s.fdc.level.bind fun x => if u.age x.2 ≤ 300 then some x.1 else none) ∧
      s.fdc.mode = .auto ∧
      s.fdc.phase = some .idle :=
  ⟨st_FeedEvaluationFormsDuties_6,
    ((reach st_FeedEvaluationFormsDuties_6.fdc.evalDue st_FeedEvaluationFormsDuties_6).setFdc
        { st_FeedEvaluationFormsDuties_6.fdc with evalDue := st_FeedEvaluationFormsDuties_6.fdc.evalDue + 100 }),
    none,
    by decide +kernel⟩

theorem test_meets_FeedEvaluationFormsDuties_7 : ∃ (s : State) (x : Time),
      s.resetLine = false ∧
      s.fdc.runOn = some x :=
  ⟨st_FeedEvaluationFormsDuties_7, 5005, by decide +kernel⟩

theorem test_meets_FeedEvaluationFormsDuties_8 : ∃ (s : State),
      s.fdc.runOn = none :=
  ⟨st_FeedEvaluationFormsDuties_8, by decide +kernel⟩

theorem test_meets_SweepFillsLanesAndJudgesFlags_1 : ∃ (s : State) (readings : List (Option Int)) (n : Nat),
      s.resetLine = false ∧
      readings.length = 12 ∧
      n = (readings.filter fun r => !(r.any fun v => decide (-200 ≤ v ∧ v ≤ 3000))).length ∧
      n < 12 ∧
      s.msi.accumulating = true ∧
      s.cfg.node ≠ .setup :=
  ⟨st_SweepFillsLanesAndJudgesFlags_1,
    [some 1200, none, some (-250), some 50, some 3001, some 3000, none, some 1000, some 900, some 1100, some 1300,
        some 700],
    4,
    by decide +kernel⟩

theorem test_meets_SweepFillsLanesAndJudgesFlags_2 : ∃ (s : State) (readings : List (Option Int)) (n : Nat),
      s.resetLine = false ∧
      readings.length = 12 ∧
      n = (readings.filter fun r => !(r.any fun v => decide (-200 ≤ v ∧ v ≤ 3000))).length ∧
      n < 12 ∧
      (s.msi.accumulating = false ∨ s.cfg.node = .setup) :=
  ⟨st_SweepFillsLanesAndJudgesFlags_2,
    [some 1200, none, some (-250), some 50, some 3001, some 3000, none, some 1000, some 900, some 1100, some 1300,
        some 700],
    4,
    by decide +kernel⟩

theorem test_meets_SweepFillsLanesAndJudgesFlags_3 : ∃ (s : State) (readings : List (Option Int)),
      s.resetLine = false ∧
      readings.length = 12 ∧
      (∀ r ∈ readings, ∀ v ∈ r, v < -200 ∨ 3000 < v) :=
  ⟨st_SweepFillsLanesAndJudgesFlags_3,
    [none, some 3001, none, none, none, none, none, none, none, some (-201), none, none],
    by decide +kernel⟩

theorem test_meets_SweepFillsLanesAndJudgesFlags_4 : ∃ (s u : State),
      s.resetLine = false ∧
      u = reach s.msi.sweepDue s :=
  ⟨st_SweepFillsLanesAndJudgesFlags_3,
    (reach st_SweepFillsLanesAndJudgesFlags_3.msi.sweepDue st_SweepFillsLanesAndJudgesFlags_3),
    by decide +kernel⟩

theorem test_meets_SweepFillsLanesAndJudgesFlags_5 : ∃ (readings : List (Option Int)),
      readings.length ≠ 12 :=
  ⟨[none], by decide +kernel⟩

theorem test_meets_SweepFillsLanesAndJudgesFlags_7 : ∃ (s : State) (span : Nat) (b : List Byte),
      b = buildRecord span s ∧
      span < 256 ∧
      s.msi.openIndex ≤ max24 ∧
      0 ≤ s.cfg.width ∧
      s.cfg.width ≤ 5500 ∧
      (s.msi.jobSat = true ∨ (s.msi.jobStart.all fun x => decide (s.age x < 1677721500)) = true) :=
  ⟨st_SweepFillsLanesAndJudgesFlags_7, 1, (buildRecord 1 st_SweepFillsLanesAndJudgesFlags_7), by decide +kernel⟩

theorem test_meets_LineAndTransmitErrors_1 : ∃ (s : State) (x : Slot),
      (s.resetLine = false ∧ s.active = true ∧ (s.lnk.slot x).isSome = true) ∧
      (∀ y, (s.lnk.slot y).isSome = true →
        s.priority x < s.priority y ∨ (s.priority x = s.priority y ∧ slotRank x ≤ slotRank y)) :=
  ⟨st_LineAndTransmitErrors_1, .p, by decide +kernel, by intro y; cases y <;> decide +kernel⟩

theorem test_meets_LineAndTransmitErrors_2 : ∃ (s : State),
      s.resetLine = false ∧
      ((s.active = false ∨ ∀ y, s.lnk.slot y = none)) :=
  ⟨st_LineAndTransmitErrors_2, by decide +kernel, .inr (by intro y; cases y <;> decide +kernel)⟩

theorem test_meets_LineAndTransmitErrors_3 : ∃ (s : State) (x : Slot),
      s.resetLine = false ∧
      s.lnk.sending = some x ∧
      (s.lnk.slot x).isSome = true :=
  ⟨st_LineAndTransmitErrors_3, .b, by decide +kernel⟩

theorem test_meets_LineAndTransmitErrors_4 : ∃ (s : State) (x : Slot) (f : Frame),
      s.resetLine = false ∧
      s.lnk.sending = some x ∧
      s.lnk.slot x = some f ∧
      s.lnk.tally + 8 < 128 :=
  ⟨st_LineAndTransmitErrors_4, .b, powerUpDemand, by decide +kernel⟩

theorem test_meets_LineAndTransmitErrors_5 : ∃ (s : State) (x : Slot) (f : Frame),
      s.resetLine = false ∧
      s.lnk.sending = some x ∧
      s.lnk.slot x = some f ∧
      128 ≤ s.lnk.tally + 8 :=
  ⟨st_LineAndTransmitErrors_5, .b, powerUpDemand, by decide +kernel⟩

theorem test_meets_LineAndTransmitErrors_6 : ∃ (s : State) (x : Time),
      s.resetLine = false ∧
      s.lnk.listenUntil = some x ∧
      readyChannel s = none :=
  ⟨st_LineAndTransmitErrors_6, 5009, by decide +kernel⟩

theorem test_meets_LineAndTransmitErrors_7 : ∃ (s : State),
      s.lnk.listenUntil = none :=
  ⟨base, by decide +kernel⟩

theorem test_meets_LineAndTransmitErrors_8 : ∃ (s : State) (winner : Addr) (c : Instr),
      ((c = .arbitrationLost winner ∨ c = .frameCarried ∨ c = .transmitError) ∧ s.resetLine = false ∧
          s.lnk.sending = none) ∧
      ((s.active = false ∨ ∀ y, s.lnk.slot y = none)) :=
  ⟨st_LineAndTransmitErrors_8, 9, .frameCarried, by decide +kernel, .inr (by intro y; cases y <;> decide +kernel)⟩

theorem test_meets_FramesDiscardedOrDropped_1 : ∃ (s : State),
      s.resetLine = false :=
  ⟨base, by decide +kernel⟩

theorem test_meets_FramesDiscardedOrDropped_2 : ∃ (s : State),
      s.resetLine = false :=
  ⟨base, by decide +kernel⟩

theorem test_meets_FramesDiscardedOrDropped_3 : ∃ (s : State),
      s.resetLine = false :=
  ⟨base, by decide +kernel⟩

theorem test_meets_FramesDiscardedOrDropped_4 : ∃ (s : State) (c : Instr) (src : Addr) (payload : List Byte),
      heardOf c = some (src, payload) ∧
      s.resetLine = false ∧
      40 < payload.length :=
  ⟨base, .demandArrival 9 (List.replicate 41 7), 9, List.replicate 41 7, by decide +kernel⟩

theorem test_meets_FramesDiscardedOrDropped_5 : ∃ (s : State) (c : Instr) (src : Addr) (payload : List Byte),
      heardOf c = some (src, payload) ∧
      s.resetLine = false ∧
      payload.length ≤ 40 ∧
      src = 15 :=
  ⟨base, .identRead 15 1 [], 15, [], by decide +kernel⟩

theorem test_meets_FramesDiscardedOrDropped_6 : ∃ (s : State) (c : Instr) (src : Addr) (payload : List Byte),
      heardOf c = some (src, payload) ∧
      s.resetLine = false ∧
      payload.length ≤ 40 ∧
      src = s.self :=
  ⟨base, .identRead 2 1 [], 2, [], by decide +kernel⟩

theorem test_meets_FramesDiscardedOrDropped_7 : ∃ (s : State) (src : Addr),
      Hears s src [] :=
  ⟨base, 9, by decide +kernel⟩

theorem test_meets_FramesDiscardedOrDropped_8 : ∃ (s : State) (c : Instr) (src : Addr) (payload : List Byte)
    (q : Addr × Byte × List Byte),
      requestOf c = some q ∧
      heardOf c = some (src, payload) ∧
      Hears s src payload ∧
      s.lnk.resetPending.isSome = true :=
  ⟨st_NodeResetAnswersThenResets_4, .identRead 9 1 [], 9, [], (9, 1, []), by decide +kernel⟩

theorem test_meets_FramesDiscardedOrDropped_9 : ∃ (s : State) (c : Instr) (src : Addr) (payload : List Byte)
    (q : Addr × Byte × List Byte),
      (requestOf c = some q ∨ c = .requestDropped src) ∧
      heardOf c = some (src, payload) ∧
      Hears s src payload ∧
      s.lnk.resetPending = none ∧
      canQueueU s = false :=
  ⟨st_FramesDiscardedOrDropped_9, .identRead 9 1 [], 9, [], (9, 1, []), by decide +kernel⟩

theorem test_meets_FramesDiscardedOrDropped_10 : ∃ (s : State) (src : Addr),
      Hears s src [] ∧
      (s.lnk.resetPending.isSome = true ∨ canQueueU s = true) :=
  ⟨base, 9, by decide +kernel⟩

theorem test_meets_FramesDiscardedOrDropped_11 : ∃ (s : State) (cls : Nat) (src : Addr) (payload : List Byte),
      Takes s src payload ∧
      49 ≤ cls ∧
      cls ≤ 55 :=
  ⟨base, 55, 9, [], by decide +kernel⟩

theorem test_meets_FramesDiscardedOrDropped_12 : ∃ (cls : Nat),
      (cls < 49 ∨ 55 < cls) :=
  ⟨56, by decide +kernel⟩

theorem test_meets_FrameCarriedInFourSteps_1 : ∃ (s : State) (f : Frame) (d : Demand),
      s.resetLine = false ∧
      f.resets = false ∧
      s.lnk.sending = some .p ∧
      s.lnk.slotP = some f ∧
      f.body = .demand d :=
  ⟨st_FrameCarriedInFourSteps_1,
    { dst := 15, tag := 0, resets := false, body := .demand { draw := 5, want := 0, need := 3, ready := true,
                                                              mode := 1, node := 1 } },
    { draw := 5, want := 0, need := 3, ready := true, mode := 1, node := 1 },
    by decide +kernel⟩

theorem test_meets_FrameCarriedInFourSteps_2 : ∃ (s : State) (f : Frame) (c : Claim) (o : OwnClaim),
      s.resetLine = false ∧
      f.resets = false ∧
      s.lnk.sending = some .u ∧
      s.lnk.slotU = some f ∧
      f.body = .claim c ∧
      s.gsu.claim = some o ∧
      o.window = none :=
  ⟨st_FrameCarriedInFourSteps_2,
    { dst := 15, tag := 0, resets := false, body := .claim { zone := 1, power := 30, need := 5 } },
    { zone := 1, power := 30, need := 5 }, { zone := 1, power := 30, need := 5, window := none },
    by decide +kernel⟩

theorem test_meets_FrameCarriedInFourSteps_3 : ∃ (s : State) (f : Frame) (c : Claim),
      s.resetLine = false ∧
      f.resets = false ∧
      s.lnk.sending = some .u ∧
      s.lnk.slotU = some f ∧
      f.body = .claim c ∧
      (s.gsu.claim.all fun o => o.window.isSome) = true :=
  ⟨st_FrameCarriedInFourSteps_3,
    { dst := 15, tag := 0, resets := false, body := .claim { zone := 1, power := 30, need := 5 } },
    { zone := 1, power := 30, need := 5 },
    by decide +kernel⟩

theorem test_meets_FrameCarriedInFourSteps_4 : ∃ (s : State) (f : Frame) (l : LevelStatus),
      s.resetLine = false ∧
      f.resets = false ∧
      s.lnk.sending = some .p ∧
      s.lnk.slotP = some f ∧
      f.body = .levelStatus l :=
  ⟨st_FrameCarriedInFourSteps_4,
    { dst := 15, tag := 0, resets := false, body := .levelStatus { side := 1, mode := 2, error := 0, duty := 0,
                                                                   refValid := true, trial := false} },
    { side := 1, mode := 2, error := 0, duty := 0, refValid := true, trial := false},
    by decide +kernel⟩

theorem test_meets_FrameCarriedInFourSteps_5 : ∃ (s : State) (f : Frame) (p : FeedPart) (v : Nat),
      s.resetLine = false ∧
      f.resets = false ∧
      s.lnk.sending = some .p ∧
      s.lnk.slotP = some f ∧
      f.body = .feedStatus p v :=
  ⟨st_FrameCarriedInFourSteps_5,
    { dst := 15, tag := 0, resets := false, body := .feedStatus { side := 1, mode := 2, starved := true,
                                                                  degraded := false, level := 5} 7 },
    { side := 1, mode := 2, starved := true, degraded := false, level := 5}, 7,
    by decide +kernel⟩

theorem test_meets_FrameCarriedInFourSteps_6 : ∃ (s : State) (f : Frame) (c : ColdSpot),
      s.resetLine = false ∧
      f.resets = false ∧
      s.lnk.sending = some .p ∧
      s.lnk.slotP = some f ∧
      f.body = .coldSpot c :=
  ⟨st_FrameCarriedInFourSteps_6,
    { dst := 15, tag := 0, resets := false, body := .coldSpot { bay := 1, interval := 2, cold := 1, coldest := 3 } },
    { bay := 1, interval := 2, cold := 1, coldest := 3 },
    by decide +kernel⟩

theorem test_meets_FrameCarriedInFourSteps_7 : ∃ (s : State) (f : Frame) (a : AlertNotice) (code : ReplyCode)
    (k : Content),
      s.resetLine = false ∧
      f.resets = false ∧
      s.lnk.sending = some .u ∧
      s.lnk.slotU = some f ∧
      (f.body = .alert a ∨ f.body = .reply code k) :=
  ⟨st_FrameCarriedInFourSteps_7,
    { dst := 15, tag := 0, resets := false, body := (.alert { source := 3, present := 4, mask := 4 }) },
    { source := 3, present := 4, mask := 4 }, .done, .empty,
    by decide +kernel⟩

theorem test_meets_FrameCarriedInFourSteps_8 : ∃ (s : State) (f : Frame),
      s.resetLine = false ∧
      f.resets = false ∧
      s.lnk.sending = some .b ∧
      s.lnk.slotB = some f ∧
      f.body.pClass = 0 ∧
      (f.body.frameClass = 56 ∨ f.body.frameClass = 57 ∨ f.body.frameClass = 58 ∨ f.body.frameClass = 59) ∧
      readyChannel s = none :=
  ⟨st_FrameCarriedInFourSteps_8, { dst := 15, tag := 0, resets := false, body := .void .lapped 1 2 },
    by decide +kernel⟩

theorem test_meets_FrameCarriedInFourSteps_9 : ∃ (s : State) (f : Frame) (x : Slot),
      s.resetLine = false ∧
      s.lnk.sending = some x ∧
      s.lnk.slot x = some f ∧
      f.resets = true :=
  ⟨st_FrameCarriedInFourSteps_9, { dst := 9, tag := 3, resets := true, body := .reply .done .empty }, .u,
    by decide +kernel⟩

theorem test_meets_ChannelStepFormsFrame_1 : ∃ (s : State) (f : Frame) (n : Fin 4) (c : Channel),
      s.resetLine = false ∧
      s.active = true ∧
      s.lnk.sending = some .b ∧
      s.lnk.slotB = some f ∧
      f.resets = false ∧
      (f.body.frameClass = 56 ∨ f.body.frameClass = 57 ∨ f.body.frameClass = 58 ∨ f.body.frameClass = 59) ∧
      readyChannel s = some n ∧
      c = s.channel n ∧
      c.state = .headers ∧
      1 ≤ c.headersLeft :=
  ⟨st_ChannelStepFormsFrame_1, { dst := 9, tag := 0, resets := false, body := .void .lapped 1 2 }, 1,
    (st_ChannelStepFormsFrame_1.channel 1),
    by decide +kernel⟩

theorem test_meets_ChannelStepFormsFrame_2 : ∃ (s : State) (f : Frame) (n : Fin 4) (c : Channel),
      s.resetLine = false ∧
      s.active = true ∧
      s.lnk.sending = some .b ∧
      s.lnk.slotB = some f ∧
      f.resets = false ∧
      (f.body.frameClass = 56 ∨ f.body.frameClass = 57 ∨ f.body.frameClass = 58 ∨ f.body.frameClass = 59) ∧
      readyChannel s = some n ∧
      c = s.channel n ∧
      c.state = .records ∧
      s.ring.holds c.next = true ∧
      parityHolds (s.ring.read (slotOf c.next)) = true :=
  ⟨st_ChannelStepFormsFrame_2, { dst := 9, tag := 0, resets := false, body := .void .lapped 1 2 }, 1,
    (st_ChannelStepFormsFrame_2.channel 1),
    by decide +kernel⟩

theorem test_meets_ChannelStepFormsFrame_3 : ∃ (s : State) (f : Frame) (n : Fin 4) (c : Channel),
      s.resetLine = false ∧
      s.active = true ∧
      s.lnk.sending = some .b ∧
      s.lnk.slotB = some f ∧
      f.resets = false ∧
      (f.body.frameClass = 56 ∨ f.body.frameClass = 57 ∨ f.body.frameClass = 58 ∨ f.body.frameClass = 59) ∧
      readyChannel s = some n ∧
      c = s.channel n ∧
      c.state = .records ∧
      s.ring.holds c.next = true ∧
      parityHolds (s.ring.read (slotOf c.next)) = false :=
  ⟨st_ChannelStepFormsFrame_3, { dst := 9, tag := 0, resets := false, body := .void .lapped 1 2 }, 1,
    (st_ChannelStepFormsFrame_3.channel 1),
    by decide +kernel⟩

theorem test_meets_ChannelStepFormsFrame_4 : ∃ (s : State) (f : Frame) (n : Fin 4) (c : Channel) (k : Nat),
      s.resetLine = false ∧
      s.active = true ∧
      s.lnk.sending = some .b ∧
      s.lnk.slotB = some f ∧
      f.resets = false ∧
      (f.body.frameClass = 56 ∨ f.body.frameClass = 57 ∨ f.body.frameClass = 58 ∨ f.body.frameClass = 59) ∧
      readyChannel s = some n ∧
      c = s.channel n ∧
      c.state = .records ∧
      s.ring.holds c.next = false ∧
      k = (if ¬(c.count = 0 ∧ c.cyclic = true) ∧ c.remaining < (s.ring.oldest - c.next).toNat then c.remaining
        else (s.ring.oldest - c.next).toNat) :=
  ⟨st_ChannelStepFormsFrame_4, { dst := 9, tag := 0, resets := false, body := .void .lapped 1 2 }, 1,
    (st_ChannelStepFormsFrame_4.channel 1), 2,
    by decide +kernel⟩

theorem test_meets_ChannelStepFormsFrame_5 : ∃ (s : State) (f : Frame) (n : Fin 4) (c : Channel),
      s.resetLine = false ∧
      s.active = true ∧
      s.lnk.sending = some .b ∧
      s.lnk.slotB = some f ∧
      f.resets = false ∧
      (f.body.frameClass = 56 ∨ f.body.frameClass = 57 ∨ f.body.frameClass = 58 ∨ f.body.frameClass = 59) ∧
      readyChannel s = some n ∧
      c = s.channel n ∧
      c.state = .closing :=
  ⟨st_ChannelStepFormsFrame_5, { dst := 9, tag := 0, resets := false, body := .void .lapped 1 2 }, 1,
    (st_ChannelStepFormsFrame_5.channel 1),
    by decide +kernel⟩

theorem test_meets_ChannelStepFormsFrame_6 : ∃ (c : Channel),
      c.state = .records :=
  ⟨{ Channel.reset with state := .records, owner := some 9, next := 4, count := 3, remaining := 2 },
    by decide +kernel⟩

theorem test_meets_BroadcastArrivalsActOnBlocks_1 : ∃ (s u : State) (src : Addr) (d1 d0 w n r m k : Byte) (d : Demand),
      Hears s src [d1, d0, w, n, r, m, k] ∧
      d = { draw := u16 d1 d0, want := w.toNat, need := n.toNat, ready := decide (r ≠ 0), mode := m.toNat,
            node := k.toNat } ∧
      u = setView src none (writeDemand src d (hear src (lineBusy s))) ∧
      (u.gsu.holdOff.isSome = true ∨ overloaded u = false ∨ chosenToShed u ≠ some s.self) :=
  ⟨base,
    (setView 9 none (writeDemand 9 { draw := 3, want := 0, need := 9, ready := true, mode := 1,
                                     node := 1 } (hear 9 (lineBusy base)))),
    9, 0, 3, 0, 9, 1, 1, 1, { draw := 3, want := 0, need := 9, ready := true, mode := 1, node := 1 },
    by decide +kernel⟩

theorem test_meets_BroadcastArrivalsActOnBlocks_2 : ∃ (s u : State) (src : Addr) (d1 d0 w n r m k : Byte) (d : Demand)
    (z : ZoneId),
      Hears s src [d1, d0, w, n, r, m, k] ∧
      d = { draw := u16 d1 d0, want := w.toNat, need := n.toNat, ready := decide (r ≠ 0), mode := m.toNat,
            node := k.toNat } ∧
      u = setView src none (writeDemand src d (hear src (lineBusy s))) ∧
      u.gsu.holdOff = none ∧
      overloaded u = true ∧
      chosenToShed u = some s.self ∧
      shedZone u = some z :=
  ⟨st_BroadcastArrivalsActOnBlocks_2,
    (setView 9 none (writeDemand 9 { draw := 3, want := 0, need := 9, ready := true, mode := 1,
                                     node := 1 } (hear 9 (lineBusy st_BroadcastArrivalsActOnBlocks_2)))),
    9, 0, 3, 0, 9, 1, 1, 1, { draw := 3, want := 0, need := 9, ready := true, mode := 1, node := 1 }, 2,
    by decide +kernel⟩

theorem test_meets_BroadcastArrivalsActOnBlocks_3 : ∃ (s : State) (src : Addr) (z p n : Byte) (c : Claim),
      Hears s src [z, p, n] ∧
      c = { zone := z.toNat, power := p.toNat, need := n.toNat } :=
  ⟨base, 9, 1, 30, 5, { zone := 1, power := 30, need := 5 }, by decide +kernel⟩

theorem test_meets_BroadcastArrivalsActOnBlocks_4 : ∃ (s : State) (src : Addr) (side mode e1 e0 d1 d0 r k : Byte)
    (l : LevelStatus),
      Hears s src [side, mode, e1, e0, d1, d0, r, k] ∧
      l = {
        side := side.toNat, mode := mode.toNat, error := s16 e1 e0, duty := s16 d1 d0, refValid := decide (r ≠ 0),
        trial := decide (k ≠ 0) } ∧
      s.cfg.straps.lev.all (fun x => decide (l.side ≠ sideCode x)) = true ∧
      s.lvc.mode ≠ .slope :=
  ⟨st_BroadcastArrivalsActOnBlocks_4, 9, 2, 2, 255, 255, 0, 4, 1, 0,
    { side := 2, mode := 2, error := -1, duty := 4, refValid := true, trial := false },
    by decide +kernel⟩

theorem test_meets_BroadcastArrivalsActOnBlocks_5 : ∃ (s : State) (src : Addr) (side mode e1 e0 d1 d0 r k : Byte)
    (l : LevelStatus) (own : Side),
      Hears s src [side, mode, e1, e0, d1, d0, r, k] ∧
      l = {
        side := side.toNat, mode := mode.toNat, error := s16 e1 e0, duty := s16 d1 d0, refValid := decide (r ≠ 0),
        trial := decide (k ≠ 0) } ∧
      s.cfg.straps.lev = some own ∧
      l.side = sideCode own ∧
      s.lvc.mode ≠ .off :=
  ⟨st_BroadcastArrivalsActOnBlocks_5, 9, 1, 2, 255, 255, 0, 4, 1, 0,
    { side := 1, mode := 2, error := -1, duty := 4, refValid := true, trial := false }, .left,
    by decide +kernel⟩

theorem test_meets_BroadcastArrivalsActOnBlocks_6 : ∃ (s u : State) (src : Addr) (side mode e1 e0 d1 d0 r k : Byte)
    (l : LevelStatus) (own : Side) (a : Addr),
      Hears s src [side, mode, e1, e0, d1, d0, r, k] ∧
      l = {
        side := side.toNat, mode := mode.toNat, error := s16 e1 e0, duty := s16 d1 d0, refValid := decide (r ≠ 0),
        trial := decide (k ≠ 0) } ∧
      u = writeLevel src l (hear src (lineBusy s)) ∧
      s.cfg.straps.lev = some own ∧
      l.side ≠ sideCode own ∧
      s.lvc.mode = .slope ∧
      partnerInGrade u = true ∧
      (partner u).map (·.1) = some a :=
  ⟨st_BroadcastArrivalsActOnBlocks_6,
    (writeLevel 9 { side := 2, mode := 2, error := -1, duty := 4, refValid := true,
                    trial := false } (hear 9 (lineBusy st_BroadcastArrivalsActOnBlocks_6))),
    9, 2, 2, 255, 255, 0, 4, 1, 0,
    { side := 2, mode := 2, error := -1, duty := 4, refValid := true, trial := false }, .left, 9,
    by decide +kernel⟩

theorem test_meets_BroadcastArrivalsActOnBlocks_7 : ∃ (s u : State) (src : Addr) (side mode e1 e0 d1 d0 r k : Byte)
    (l : LevelStatus) (own : Side),
      Hears s src [side, mode, e1, e0, d1, d0, r, k] ∧
      l = {
        side := side.toNat, mode := mode.toNat, error := s16 e1 e0, duty := s16 d1 d0, refValid := decide (r ≠ 0),
        trial := decide (k ≠ 0) } ∧
      u = writeLevel src l (hear src (lineBusy s)) ∧
      s.cfg.straps.lev = some own ∧
      l.side ≠ sideCode own ∧
      s.lvc.mode = .slope ∧
      partnerInGrade u = false :=
  ⟨st_BroadcastArrivalsActOnBlocks_6,
    (writeLevel 9 { side := 2, mode := 3, error := -1, duty := 4, refValid := true,
                    trial := false } (hear 9 (lineBusy st_BroadcastArrivalsActOnBlocks_6))),
    9, 2, 3, 255, 255, 0, 4, 1, 0,
    { side := 2, mode := 3, error := -1, duty := 4, refValid := true, trial := false }, .left,
    by decide +kernel⟩

theorem test_meets_BroadcastArrivalsActOnBlocks_8 : ∃ (s : State) (src : Addr) (side mode st dg l1 l0 c1 c0 : Byte)
    (f : FeedPart),
      Hears s src [side, mode, st, dg, l1, l0, c1, c0] ∧
      f = { side := side.toNat, mode := mode.toNat, starved := decide (st ≠ 0), degraded := decide (dg ≠ 0),
            level := u16 l1 l0 } ∧
      s.cfg.straps.feed.all (fun x => decide (f.side ≠ sideCode x)) = true :=
  ⟨st_BroadcastArrivalsActOnBlocks_8, 9, 2, 2, 1, 0, 1, 0, 0, 0,
    { side := 2, mode := 2, starved := true, degraded := false, level := 256 },
    by decide +kernel⟩

theorem test_meets_BroadcastArrivalsActOnBlocks_9 : ∃ (s : State) (src : Addr) (side mode st dg l1 l0 c1 c0 : Byte)
    (f : FeedPart) (own : Side),
      Hears s src [side, mode, st, dg, l1, l0, c1, c0] ∧
      f = { side := side.toNat, mode := mode.toNat, starved := decide (st ≠ 0), degraded := decide (dg ≠ 0),
            level := u16 l1 l0 } ∧
      s.cfg.straps.feed = some own ∧
      f.side = sideCode own ∧
      s.fdc.mode ≠ .off :=
  ⟨st_BroadcastArrivalsActOnBlocks_9, 9, 1, 2, 1, 0, 1, 0, 0, 0,
    { side := 1, mode := 2, starved := true, degraded := false, level := 256 }, .left,
    by decide +kernel⟩

theorem test_meets_BroadcastArrivalsActOnBlocks_10 : ∃ (s : State) (c : Instr) (src : Addr) (payload : List Byte),
      ((c = .demandArrival src payload ∧ payload.length ≠ 7) ∨ (c = .claimArrival src payload ∧ payload.length ≠ 3) ∨
        ((c = .levelStatusArrival src payload ∨ c = .feedStatusArrival src payload) ∧ payload.length ≠ 8)) ∧
      Hears s src payload :=
  ⟨base, .claimArrival 9 [], 9, [], by decide +kernel⟩

theorem test_meets_LevelModeChangesMode_1 : ∃ (s : State) (src : Addr),
      Takes s src [0] ∧
      s.cfg.node = .run ∧
      s.cfg.straps.lev.isSome = true ∧
      s.lvc.mode ≠ .off :=
  ⟨st_LevelModeChangesMode_1, 9, by decide +kernel⟩

theorem test_meets_LevelModeChangesMode_2 : ∃ (s : State) (src : Addr),
      Takes s src [1] ∧
      s.cfg.node = .run ∧
      s.cfg.straps.lev.isSome = true ∧
      s.lvc.mode ≠ .manual :=
  ⟨st_LevelModeChangesMode_1, 9, by decide +kernel⟩

theorem test_meets_LevelModeChangesMode_3 : ∃ (s : State) (src : Addr),
      Takes s src [2] ∧
      s.cfg.node = .run ∧
      s.cfg.straps.lev.isSome = true ∧
      s.lvc.mode ≠ .grade ∧
      s.lvc.reference.isSome = true :=
  ⟨st_LevelModeChangesMode_3, 9, by decide +kernel⟩

theorem test_meets_LevelModeChangesMode_4 : ∃ (s : State) (src : Addr),
      Takes s src [2] ∧
      s.cfg.node = .run ∧
      s.cfg.straps.lev.isSome = true ∧
      s.lvc.mode ≠ .grade ∧
      s.lvc.reference = none :=
  ⟨st_LevelModeChangesMode_4, 9, by decide +kernel⟩

theorem test_meets_LevelModeChangesMode_5 : ∃ (s : State) (src a : Addr) (l : LevelStatus) (since : Time),
      Takes s src [3] ∧
      s.cfg.node = .run ∧
      s.cfg.straps.lev.isSome = true ∧
      s.lvc.mode ≠ .slope ∧
      partner s = some (a, l) ∧
      l.mode = 2 ∧
      (s.entry a).level = some (l, since) :=
  ⟨st_LevelModeChangesMode_5, 9, 9,
    { side := 2, mode := 2, error := 0, duty := 0, refValid := true, trial := false }, 5000,
    by decide +kernel⟩

theorem test_meets_LevelModeChangesMode_6 : ∃ (s : State) (src : Addr),
      Takes s src [3] ∧
      s.cfg.node = .run ∧
      s.cfg.straps.lev.isSome = true ∧
      s.lvc.mode ≠ .slope ∧
      partnerInGrade s = false :=
  ⟨st_LevelModeChangesMode_6, 9, by decide +kernel⟩

theorem test_meets_LevelModeChangesMode_7 : ∃ (s : State) (src : Addr) (tag : Byte) (c : Instr) (b : Byte)
    (m : LevelMode),
      Takes s src [b] ∧
      s.cfg.node = .run ∧
      s.cfg.straps.lev.isSome = true ∧
      (c = .levelModeOff src tag [b] ∨ c = .levelModeManual src tag [b] ∨ c = .levelModeGrade src tag [b] ∨
          c = .levelModeSlope src tag [b]) ∧
      (b, m) ∈ [((0 : Byte), LevelMode.off), (1, .manual), (2, .grade), (3, .slope)] ∧
      s.lvc.mode = m :=
  ⟨st_LevelModeChangesMode_7, 9, 7, .levelModeOff 9 7 [0], 0, .off, by decide +kernel⟩

theorem test_meets_LevelModeChangesMode_8 : ∃ (s : State) (src : Addr) (tag : Byte) (c : Instr) (b : Byte),
      Takes s src [b] ∧
      s.cfg.node = .run ∧
      s.cfg.straps.lev.isSome = true ∧
      (c = .levelModeOff src tag [b] ∨ c = .levelModeManual src tag [b] ∨ c = .levelModeGrade src tag [b] ∨
          c = .levelModeSlope src tag [b]) ∧
      3 < b.toNat :=
  ⟨st_LevelModeChangesMode_1_base, 9, 7, .levelModeOff 9 7 [4], 4, by decide +kernel⟩

theorem test_meets_LevelModeChangesMode_9 : ∃ (s : State) (src : Addr) (tag : Byte) (c : Instr) (payload : List Byte),
      Takes s src payload ∧
      s.cfg.node = .run ∧
      s.cfg.straps.lev.isSome = true ∧
      (c = .levelModeOff src tag payload ∨ c = .levelModeManual src tag payload ∨ c = .levelModeGrade src tag payload ∨
          c = .levelModeSlope src tag payload) ∧
      payload.length ≠ 1 :=
  ⟨st_LevelModeChangesMode_1_base, 9, 7, .levelModeOff 9 7 [], [], by decide +kernel⟩

theorem test_meets_LevelModeChangesMode_10 : ∃ (s : State) (src : Addr) (tag : Byte) (c : Instr) (payload : List Byte),
      Takes s src payload ∧
      s.cfg.node = .run ∧
      s.cfg.straps.lev = none ∧
      (c = .levelModeOff src tag payload ∨ c = .levelModeManual src tag payload ∨ c = .levelModeGrade src tag payload ∨
          c = .levelModeSlope src tag payload) :=
  ⟨st_LevelModeChangesMode_10, 9, 7, .levelModeOff 9 7 [], [], by decide +kernel⟩

theorem test_meets_LevelSetAndZeroStore_1 : ∃ (s : State) (src : Addr) (hi lo : Byte) (v : Int),
      Takes s src [1, hi, lo] ∧
      s.cfg.node ≠ .setup ∧
      s.cfg.straps.lev.isSome = true ∧
      v = (if s16 hi lo < -500 then -500 else if 500 < s16 hi lo then 500 else s16 hi lo) :=
  ⟨st_LevelModeChangesMode_1_base, 9, 1, 245, 500, by decide +kernel⟩

theorem test_meets_LevelSetAndZeroStore_2 : ∃ (s : State) (src : Addr) (hi lo : Byte) (v : Int),
      Takes s src [2, hi, lo] ∧
      s.cfg.node ≠ .setup ∧
      s.cfg.straps.lev.isSome = true ∧
      v = (if s16 hi lo < -1000 then -1000 else if 1000 < s16 hi lo then 1000 else s16 hi lo) :=
  ⟨st_LevelModeChangesMode_1_base, 9, 252, 23, -1000, by decide +kernel⟩

theorem test_meets_LevelSetAndZeroStore_3 : ∃ (s : State) (src : Addr) (dir d1 d0 t1 t0 : Byte) (d : Int) (m : Nat),
      Takes s src [3, dir, d1, d0, t1, t0] ∧
      s.cfg.node ≠ .setup ∧
      s.cfg.straps.lev.isSome = true ∧
      s.lvc.mode = .manual ∧
      (dir = 1 ∨ dir = 2) ∧
      0 ≤ s.lvc.gains.uMax ∧
      d = (if s16 d1 d0 < 0 then 0 else if s.lvc.gains.uMax < s16 d1 d0 then s.lvc.gains.uMax else s16 d1 d0) ∧
      m = max 50 (min 2000 (u16 t1 t0)) ∧
      0 < d :=
  ⟨st_LevelSetAndZeroStore_3, 9, 1, 3, 0, 0, 49, 680, 50, by decide +kernel⟩

theorem test_meets_LevelSetAndZeroStore_4 : ∃ (s : State) (src : Addr) (dir d1 d0 t1 t0 : Byte) (d : Int) (m : Nat),
      Takes s src [3, dir, d1, d0, t1, t0] ∧
      s.cfg.node ≠ .setup ∧
      s.cfg.straps.lev.isSome = true ∧
      s.lvc.mode = .manual ∧
      (dir = 1 ∨ dir = 2) ∧
      0 ≤ s.lvc.gains.uMax ∧
      d = (if s16 d1 d0 < 0 then 0 else if s.lvc.gains.uMax < s16 d1 d0 then s.lvc.gains.uMax else s16 d1 d0) ∧
      m = max 50 (min 2000 (u16 t1 t0)) ∧
      d = 0 :=
  ⟨st_LevelSetAndZeroStore_3, 9, 2, 255, 0, 0, 50, 0, 50, by decide +kernel⟩

theorem test_meets_LevelSetAndZeroStore_5 : ∃ (s : State) (src : Addr) (dir d1 d0 t1 t0 : Byte),
      Takes s src [3, dir, d1, d0, t1, t0] ∧
      s.cfg.node ≠ .setup ∧
      s.cfg.straps.lev.isSome = true ∧
      s.lvc.mode ≠ .manual :=
  ⟨st_LevelModeChangesMode_1, 9, 0, 0, 0, 0, 0, by decide +kernel⟩

theorem test_meets_LevelSetAndZeroStore_6 : ∃ (s : State) (src : Addr) (dir d1 d0 t1 t0 : Byte),
      Takes s src [3, dir, d1, d0, t1, t0] ∧
      s.cfg.node ≠ .setup ∧
      s.cfg.straps.lev.isSome = true ∧
      s.lvc.mode = .manual ∧
      dir ≠ 1 ∧
      dir ≠ 2 :=
  ⟨st_LevelSetAndZeroStore_6, 9, 0, 0, 0, 0, 0, by decide +kernel⟩

theorem test_meets_LevelSetAndZeroStore_7 : ∃ (s : State) (src : Addr) (tag : Byte) (c : Instr) (op : Byte)
    (rest : List Byte),
      Takes s src (op :: rest) ∧
      s.cfg.node ≠ .setup ∧
      s.cfg.straps.lev.isSome = true ∧
      (c = .levelSetOffset src tag (op :: rest) ∨ c = .levelSetSlope src tag (op :: rest) ∨
          c = .levelSetJog src tag (op :: rest)) ∧
      op ≠ 1 ∧
      op ≠ 2 ∧
      op ≠ 3 :=
  ⟨st_LevelModeChangesMode_1_base, 9, 7, .levelSetOffset 9 7 [0], 0, [], by decide +kernel⟩

theorem test_meets_LevelSetAndZeroStore_8 : ∃ (s : State) (src : Addr) (tag : Byte) (c : Instr) (payload : List Byte),
      Takes s src payload ∧
      s.cfg.node ≠ .setup ∧
      s.cfg.straps.lev.isSome = true ∧
      (c = .levelSetOffset src tag payload ∨ c = .levelSetSlope src tag payload ∨ c = .levelSetJog src tag payload) ∧
      (payload = [] ∨ ((payload.head? = some 1 ∨ payload.head? = some 2) ∧ payload.length ≠ 3) ∨
        (payload.head? = some 3 ∧ payload.length ≠ 6)) :=
  ⟨st_LevelModeChangesMode_1_base, 9, 7, .levelSetOffset 9 7 [1, 0], [1, 0], by decide +kernel⟩

theorem test_meets_LevelSetAndZeroStore_9 : ∃ (s : State) (src : Addr) (a : Int),
      Takes s src [] ∧
      s.cfg.node ≠ .setup ∧
      s.cfg.straps.lev.isSome = true ∧
      average s = some a :=
  ⟨st_LevelSetAndZeroStore_9, 9, 4102, by decide +kernel⟩

theorem test_meets_LevelSetAndZeroStore_10 : ∃ (s : State) (src : Addr),
      Takes s src [] ∧
      s.cfg.node ≠ .setup ∧
      s.cfg.straps.lev.isSome = true ∧
      average s = none :=
  ⟨st_LevelSetAndZeroStore_10, 9, by decide +kernel⟩

theorem test_meets_LevelSetAndZeroStore_11 : ∃ (s : State) (src : Addr) (payload : List Byte),
      Takes s src payload ∧
      s.cfg.node ≠ .setup ∧
      s.cfg.straps.lev.isSome = true ∧
      payload ≠ [] :=
  ⟨st_LevelModeChangesMode_1_base, 9, [0], by decide +kernel⟩

theorem test_meets_LevelSetAndZeroStore_12 : ∃ (s : State) (src : Addr) (tag : Byte) (c : Instr) (payload : List Byte),
      Takes s src payload ∧
      s.cfg.node ≠ .setup ∧
      s.cfg.straps.lev = none ∧
      (c = .levelSetOffset src tag payload ∨ c = .levelSetSlope src tag payload ∨ c = .levelSetJog src tag payload ∨
          c = .levelZero src tag payload) :=
  ⟨st_LevelModeChangesMode_10, 9, 7, .levelZero 9 7 [], [], by decide +kernel⟩

theorem test_meets_GainsAndTrialRequests_1 : ∃ (s : State) (src : Addr) (a1 a0 b1 b0 c1 c0 d1 d0 e1 e0 : Byte)
    (g k : Gains),
      Takes s src [a1, a0, b1, b0, c1, c0, d1, d0, e1, e0] ∧
      s.cfg.node ≠ .setup ∧
      s.cfg.straps.lev.isSome = true ∧
      g = { d := s16 a1 a0, p := s16 b1 b0, uMin := s16 c1 c0, uMax := s16 d1 d0, slew := s16 e1 e0 } ∧
      k = {
        d := (if g.d < 5 then 5 else if 50 < g.d then 50 else g.d), p :=
            max ((if g.d < 5 then 5 else if 50 < g.d then 50 else g.d) + 5) (if g.p < 20 then 20 else if 300 < g.p then
            300 else g.p),
        uMin := (if g.uMin < 0 then 0 else if 500 < g.uMin then 500 else g.uMin), uMax :=
            max (if g.uMin < 0 then 0 else if 500 < g.uMin then 500 else g.uMin) (if g.uMax < 0 then 0 else
            if 1000 < g.uMax then 1000 else g.uMax), slew := (if g.slew < 10 then 10 else if 1000 < g.slew then
            1000 else g.slew) } ∧
      s.lvc.trial = none ∧
      s.lvc.mode.corrects = true :=
  ⟨st_GainsAndTrialRequests_1, 9, 0, 4, 0, 20, 0, 100, 0, 50, 0, 10,
    { d := 4, p := 20, uMin := 100, uMax := 50, slew := 10 },
    { d := 5, p := 20, uMin := 100, uMax := 100, slew := 10 },
    by decide +kernel⟩

theorem test_meets_GainsAndTrialRequests_2 : ∃ (s : State) (src : Addr) (a1 a0 b1 b0 c1 c0 d1 d0 e1 e0 : Byte)
    (g k : Gains) (j : Jog),
      Takes s src [a1, a0, b1, b0, c1, c0, d1, d0, e1, e0] ∧
      s.cfg.node ≠ .setup ∧
      s.cfg.straps.lev.isSome = true ∧
      g = { d := s16 a1 a0, p := s16 b1 b0, uMin := s16 c1 c0, uMax := s16 d1 d0, slew := s16 e1 e0 } ∧
      k = {
        d := (if g.d < 5 then 5 else if 50 < g.d then 50 else g.d), p :=
            max ((if g.d < 5 then 5 else if 50 < g.d then 50 else g.d) + 5) (if g.p < 20 then 20 else if 300 < g.p then
            300 else g.p),
        uMin := (if g.uMin < 0 then 0 else if 500 < g.uMin then 500 else g.uMin), uMax :=
            max (if g.uMin < 0 then 0 else if 500 < g.uMin then 500 else g.uMin) (if g.uMax < 0 then 0 else
            if 1000 < g.uMax then 1000 else g.uMax), slew := (if g.slew < 10 then 10 else if 1000 < g.slew then
            1000 else g.slew) } ∧
      s.lvc.trial = none ∧
      s.lvc.mode.corrects = false ∧
      s.lvc.jog = some j :=
  ⟨st_GainsAndTrialRequests_2, 9, 0, 4, 0, 20, 0, 100, 0, 50, 0, 10,
    { d := 4, p := 20, uMin := 100, uMax := 50, slew := 10 },
    { d := 5, p := 20, uMin := 100, uMax := 100, slew := 10 }, { duty := -300, endTime := 5009 },
    by decide +kernel⟩

theorem test_meets_GainsAndTrialRequests_3 : ∃ (s : State) (src : Addr) (a1 a0 b1 b0 c1 c0 d1 d0 e1 e0 : Byte)
    (g k : Gains),
      Takes s src [a1, a0, b1, b0, c1, c0, d1, d0, e1, e0] ∧
      s.cfg.node ≠ .setup ∧
      s.cfg.straps.lev.isSome = true ∧
      g = { d := s16 a1 a0, p := s16 b1 b0, uMin := s16 c1 c0, uMax := s16 d1 d0, slew := s16 e1 e0 } ∧
      k = {
        d := (if g.d < 5 then 5 else if 50 < g.d then 50 else g.d), p :=
            max ((if g.d < 5 then 5 else if 50 < g.d then 50 else g.d) + 5) (if g.p < 20 then 20 else if 300 < g.p then
            300 else g.p),
        uMin := (if g.uMin < 0 then 0 else if 500 < g.uMin then 500 else g.uMin), uMax :=
            max (if g.uMin < 0 then 0 else if 500 < g.uMin then 500 else g.uMin) (if g.uMax < 0 then 0 else
            if 1000 < g.uMax then 1000 else g.uMax), slew := (if g.slew < 10 then 10 else if 1000 < g.slew then
            1000 else g.slew) } ∧
      s.lvc.trial = none ∧
      s.lvc.mode.corrects = false ∧
      s.lvc.jog = none :=
  ⟨st_GainsAndTrialRequests_3, 9, 0, 4, 0, 20, 0, 100, 0, 50, 0, 10,
    { d := 4, p := 20, uMin := 100, uMax := 50, slew := 10 },
    { d := 5, p := 20, uMin := 100, uMax := 100, slew := 10 },
    by decide +kernel⟩

theorem test_meets_GainsAndTrialRequests_4 : ∃ (s : State) (src : Addr) (a1 a0 b1 b0 c1 c0 d1 d0 e1 e0 : Byte)
    (g k : Gains) (x : Trial),
      Takes s src [a1, a0, b1, b0, c1, c0, d1, d0, e1, e0] ∧
      s.cfg.node ≠ .setup ∧
      s.cfg.straps.lev.isSome = true ∧
      g = { d := s16 a1 a0, p := s16 b1 b0, uMin := s16 c1 c0, uMax := s16 d1 d0, slew := s16 e1 e0 } ∧
      k = {
        d := (if g.d < 5 then 5 else if 50 < g.d then 50 else g.d), p :=
            max ((if g.d < 5 then 5 else if 50 < g.d then 50 else g.d) + 5) (if g.p < 20 then 20 else if 300 < g.p then
            300 else g.p),
        uMin := (if g.uMin < 0 then 0 else if 500 < g.uMin then 500 else g.uMin), uMax :=
            max (if g.uMin < 0 then 0 else if 500 < g.uMin then 500 else g.uMin) (if g.uMax < 0 then 0 else
            if 1000 < g.uMax then 1000 else g.uMax), slew := (if g.slew < 10 then 10 else if 1000 < g.slew then
            1000 else g.slew) } ∧
      s.lvc.trial = some x :=
  ⟨st_GainsAndTrialRequests_4, 9, 0, 4, 0, 20, 0, 100, 0, 50, 0, 10,
    { d := 4, p := 20, uMin := 100, uMax := 50, slew := 10 },
    { d := 5, p := 20, uMin := 100, uMax := 100, slew := 10 },
    { gains := { d := 10, p := 60, uMin := 50, uMax := 600, slew := 100 }, w := 200, k := 3, strikes := 1, cycles := 7,
      guardSlew := -400, trialDuty := 150, guardDuty := -400 },
    by decide +kernel⟩

theorem test_meets_GainsAndTrialRequests_5 : ∃ (s : State) (src : Addr) (payload : List Byte),
      Takes s src payload ∧
      s.cfg.node ≠ .setup ∧
      s.cfg.straps.lev.isSome = true ∧
      payload.length ≠ 10 :=
  ⟨st_LevelModeChangesMode_1_base, 9, [1], by decide +kernel⟩

theorem test_meets_GainsAndTrialRequests_6 : ∃ (s : State) (src : Addr),
      Takes s src [] ∧
      s.cfg.node ≠ .setup ∧
      s.cfg.straps.lev.isSome = true :=
  ⟨st_LevelModeChangesMode_1_base, 9, by decide +kernel⟩

theorem test_meets_GainsAndTrialRequests_7 : ∃ (s : State) (src : Addr) (a1 a0 b1 b0 c1 c0 d1 d0 e1 e0 w1 w0 n : Byte)
    (g k : Gains) (w : Int) (m : Nat),
      Takes s src [1, a1, a0, b1, b0, c1, c0, d1, d0, e1, e0, w1, w0, n] ∧
      s.cfg.node ≠ .setup ∧
      s.cfg.straps.lev.isSome = true ∧
      s.lvc.mode.corrects = true ∧
      s.lvc.trial = none ∧
      g = { d := s16 a1 a0, p := s16 b1 b0, uMin := s16 c1 c0, uMax := s16 d1 d0, slew := s16 e1 e0 } ∧
      k = {
        d := (if g.d < 5 then 5 else if 50 < g.d then 50 else g.d), p :=
            max ((if g.d < 5 then 5 else if 50 < g.d then 50 else g.d) + 5) (if g.p < 20 then 20 else if 300 < g.p then
            300 else g.p),
        uMin := (if g.uMin < 0 then 0 else if 500 < g.uMin then 500 else g.uMin), uMax :=
            max (if g.uMin < 0 then 0 else if 500 < g.uMin then 500 else g.uMin) (if g.uMax < 0 then 0 else
            if 1000 < g.uMax then 1000 else g.uMax), slew := (if g.slew < 10 then 10 else if 1000 < g.slew then
            1000 else g.slew) } ∧
      w = (if s16 w1 w0 < 50 then 50 else if 1000 < s16 w1 w0 then 1000 else s16 w1 w0) ∧
      m = max 1 (min 20 n.toNat) :=
  ⟨st_GainsAndTrialRequests_7, 9, 0, 4, 0, 20, 0, 100, 0, 50, 0, 10, 0, 49, 21,
    { d := 4, p := 20, uMin := 100, uMax := 50, slew := 10 },
    { d := 5, p := 20, uMin := 100, uMax := 100, slew := 10 }, 50, 20,
    by decide +kernel⟩

theorem test_meets_GainsAndTrialRequests_8 : ∃ (s : State) (src : Addr) (a1 a0 b1 b0 c1 c0 d1 d0 e1 e0 w1 w0 n : Byte),
      Takes s src [1, a1, a0, b1, b0, c1, c0, d1, d0, e1, e0, w1, w0, n] ∧
      s.cfg.node ≠ .setup ∧
      s.cfg.straps.lev.isSome = true ∧
      (s.lvc.mode.corrects = false ∨ s.lvc.trial.isSome = true) :=
  ⟨st_GainsAndTrialRequests_4, 9, 0, 4, 0, 20, 0, 100, 0, 50, 0, 10, 0, 49, 21, by decide +kernel⟩

theorem test_meets_GainsAndTrialRequests_9 : ∃ (s : State) (src : Addr) (x : Trial),
      Takes s src [2] ∧
      s.cfg.node ≠ .setup ∧
      s.cfg.straps.lev.isSome = true ∧
      s.lvc.trial = some x ∧
      GainsLaw x.gains :=
  ⟨st_GainsAndTrialRequests_4, 9,
    { gains := { d := 10, p := 60, uMin := 50, uMax := 600, slew := 100 }, w := 200, k := 3, strikes := 1, cycles := 7,
      guardSlew := -400, trialDuty := 150, guardDuty := -400 },
    by decide +kernel⟩

theorem test_meets_GainsAndTrialRequests_10 : ∃ (s : State) (src : Addr) (x : Trial) (o : Int),
      Takes s src [3] ∧
      s.cfg.node ≠ .setup ∧
      s.cfg.straps.lev.isSome = true ∧
      s.lvc.trial = some x ∧
      o = (if s.lvc.output * x.guardDuty < 0 then 0 else x.guardDuty) :=
  ⟨st_GainsAndTrialRequests_10, 9,
    { gains := { d := 10, p := 60, uMin := 50, uMax := 600, slew := 100 }, w := 200, k := 3, strikes := 1, cycles := 7,
      guardSlew := -400, trialDuty := 150, guardDuty := -400 },
    -400,
    by decide +kernel⟩

theorem test_meets_GainsAndTrialRequests_11 : ∃ (s : State) (src : Addr),
      Takes s src [2] ∧
      s.cfg.node ≠ .setup ∧
      s.cfg.straps.lev.isSome = true ∧
      s.lvc.trial = none :=
  ⟨st_GainsAndTrialRequests_11, 9, by decide +kernel⟩

theorem test_meets_GainsAndTrialRequests_12 : ∃ (s : State) (src : Addr),
      Takes s src [3] ∧
      s.cfg.node ≠ .setup ∧
      s.cfg.straps.lev.isSome = true ∧
      s.lvc.trial = none :=
  ⟨st_GainsAndTrialRequests_11, 9, by decide +kernel⟩

theorem test_meets_GainsAndTrialRequests_13 : ∃ (s : State) (src : Addr) (tag : Byte) (c : Instr) (op : Byte)
    (rest : List Byte),
      Takes s src (op :: rest) ∧
      s.cfg.node ≠ .setup ∧
      s.cfg.straps.lev.isSome = true ∧
      (c = .levelTrialCaptureRead src tag (op :: rest) ∨ c = .levelTrialStart src tag (op :: rest) ∨
          c = .levelTrialPromote src tag (op :: rest) ∨ c = .levelTrialEnd src tag (op :: rest)) ∧
      (op = 0 ∨ 3 < op.toNat) :=
  ⟨st_LevelModeChangesMode_1_base, 9, 7, .levelTrialStart 9 7 [4], 4, [], by decide +kernel⟩

theorem test_meets_GainsAndTrialRequests_14 : ∃ (s : State) (src : Addr) (tag : Byte) (c : Instr) (payload : List Byte),
      Takes s src payload ∧
      s.cfg.node ≠ .setup ∧
      s.cfg.straps.lev.isSome = true ∧
      (c = .levelTrialCaptureRead src tag payload ∨ c = .levelTrialStart src tag payload ∨
          c = .levelTrialPromote src tag payload ∨ c = .levelTrialEnd src tag payload) ∧
      ((payload.head? = some 1 ∧ payload.length ≠ 14) ∨
        ((payload.head? = some 2 ∨ payload.head? = some 3) ∧ payload.length ≠ 1)) :=
  ⟨st_LevelModeChangesMode_1_base, 9, 7, .levelTrialStart 9 7 [1, 0], [1, 0], by decide +kernel⟩

theorem test_meets_GainsAndTrialRequests_15 : ∃ (s : State) (src : Addr) (tag : Byte) (c : Instr) (payload : List Byte),
      Takes s src payload ∧
      s.cfg.node ≠ .setup ∧
      s.cfg.straps.lev = none ∧
      (c = .levelGains src tag payload ∨ c = .levelTrialCaptureRead src tag payload ∨
          c = .levelTrialStart src tag payload ∨ c = .levelTrialPromote src tag payload ∨
          c = .levelTrialEnd src tag payload) :=
  ⟨st_LevelModeChangesMode_10, 9, 7, .levelGains 9 7 [], [], by decide +kernel⟩

theorem test_meets_FeedRequestsAct_1 : ∃ (s : State) (src : Addr),
      Takes s src [] ∧
      s.cfg.node = .run ∧
      s.cfg.straps.feed.isSome = true :=
  ⟨st_FeedRequestsAct_1, 9, by decide +kernel⟩

theorem test_meets_FeedRequestsAct_2 : ∃ (s : State) (src : Addr) (b : Byte) (m : FeedMode),
      Takes s src [1, b] ∧
      s.cfg.node = .run ∧
      s.cfg.straps.feed.isSome = true ∧
      (b, m) ∈ [((0 : Byte), FeedMode.off), (1, .manual), (2, .auto)] ∧
      s.fdc.mode ≠ m :=
  ⟨st_FeedRequestsAct_2, 9, 2, .auto, by decide +kernel⟩

theorem test_meets_FeedRequestsAct_3 : ∃ (s : State) (src : Addr) (b : Byte) (m : FeedMode),
      Takes s src [1, b] ∧
      s.cfg.node = .run ∧
      s.cfg.straps.feed.isSome = true ∧
      (b, m) ∈ [((0 : Byte), FeedMode.off), (1, .manual), (2, .auto)] ∧
      s.fdc.mode = m :=
  ⟨st_FeedRequestsAct_3, 9, 2, .auto, by decide +kernel⟩

theorem test_meets_FeedRequestsAct_4 : ∃ (s : State) (src : Addr) (hi lo : Byte) (v : Int),
      Takes s src [2, hi, lo] ∧
      s.cfg.node = .run ∧
      s.cfg.straps.feed.isSome = true ∧
      v = (if s16 hi lo < 100 then 100 else if 900 < s16 hi lo then 900 else s16 hi lo) :=
  ⟨st_FeedRequestsAct_1, 9, 0, 99, 100, by decide +kernel⟩

theorem test_meets_FeedRequestsAct_5 : ∃ (s : State) (src : Addr) (c1 c0 a1 a0 : Byte) (x y : Int),
      Takes s src [3, c1, c0, a1, a0] ∧
      s.cfg.node = .run ∧
      s.cfg.straps.feed.isSome = true ∧
      s.fdc.mode = .manual ∧
      x = (if s16 c1 c0 < 0 then 0 else if 1000 < s16 c1 c0 then 1000 else s16 c1 c0) ∧
      y = (if s16 a1 a0 < 0 then 0 else if 1000 < s16 a1 a0 then 1000 else s16 a1 a0) :=
  ⟨st_FeedRequestsAct_5, 9, 3, 233, 255, 255, 1000, 0, by decide +kernel⟩

theorem test_meets_FeedRequestsAct_6 : ∃ (s : State) (src : Addr) (c1 c0 a1 a0 : Byte),
      Takes s src [3, c1, c0, a1, a0] ∧
      s.cfg.node = .run ∧
      s.cfg.straps.feed.isSome = true ∧
      s.fdc.mode ≠ .manual :=
  ⟨st_FeedRequestsAct_2, 9, 0, 0, 0, 0, by decide +kernel⟩

theorem test_meets_FeedRequestsAct_7 : ∃ (s : State) (src : Addr) (tag : Byte) (c : Instr) (payload : List Byte),
      Takes s src payload ∧
      s.cfg.node = .run ∧
      s.cfg.straps.feed.isSome = true ∧
      (c = .feedStatusRead src tag payload ∨ c = .feedMode src tag payload ∨ c = .feedLevel src tag payload ∨
          c = .feedDuties src tag payload) ∧
      payload.head? ≠ none ∧
      ((payload.head? ≠ some 1 ∧ payload.head? ≠ some 2 ∧ payload.head? ≠ some 3) ∨
        (payload.head? = some 1 ∧ payload.length = 2 ∧ 2 < (payload.getD 1 0).toNat)) :=
  ⟨st_FeedRequestsAct_2, 9, 7, .feedMode 9 7 [1, 3], [1, 3], by decide +kernel⟩

theorem test_meets_FeedRequestsAct_8 : ∃ (s : State) (src : Addr) (tag : Byte) (c : Instr) (payload : List Byte),
      Takes s src payload ∧
      s.cfg.node = .run ∧
      s.cfg.straps.feed.isSome = true ∧
      (c = .feedStatusRead src tag payload ∨ c = .feedMode src tag payload ∨ c = .feedLevel src tag payload ∨
          c = .feedDuties src tag payload) ∧
      ((payload.head? = some 1 ∧ payload.length ≠ 2) ∨ (payload.head? = some 2 ∧ payload.length ≠ 3) ∨
        (payload.head? = some 3 ∧ payload.length ≠ 5)) :=
  ⟨st_FeedRequestsAct_2, 9, 7, .feedMode 9 7 [1], [1], by decide +kernel⟩

theorem test_meets_FeedRequestsAct_9 : ∃ (s : State) (src : Addr) (tag : Byte) (c : Instr) (payload : List Byte),
      Takes s src payload ∧
      s.cfg.node = .run ∧
      s.cfg.straps.feed = none ∧
      (c = .feedStatusRead src tag payload ∨ c = .feedMode src tag payload ∨ c = .feedLevel src tag payload ∨
          c = .feedDuties src tag payload) :=
  ⟨st_FeedRequestsAct_9, 9, 7, .feedStatusRead 9 7 [], [], by decide +kernel⟩

theorem test_meets_JobStartAndEnd_1 : ∃ (s : State) (src : Addr) (x : LastFrame),
      Takes s src [1] ∧
      s.cfg.node = .run ∧
      s.trv.state ≠ .unknown ∧
      s.trv.jobOpen = false ∧
      s.trv.last = some x :=
  ⟨st_JobStartAndEnd_1, 9, { src := 12, left := 100, right := 120, seq := some 4, time := some 5000 },
    by decide +kernel⟩

theorem test_meets_JobStartAndEnd_2 : ∃ (s u v : State) (src : Addr) (x : LastFrame) (w : ColdSpot),
      Takes s src [1] ∧
      s.cfg.node = .run ∧
      s.trv.state ≠ .unknown ∧
      s.trv.jobOpen = true ∧
      s.trv.last = some x ∧
      s.ring.held ≤ 4096 ∧
      u = addStopTime (judgeJobTime s) ∧
      v = ringWrite (buildRecord 1 u) (clearStopTime u) ∧
      w = coldSpotNow u :=
  ⟨st_JobStartAndEnd_2, (addStopTime (judgeJobTime st_JobStartAndEnd_2)),
    (ringWrite (buildRecord 1 (addStopTime (judgeJobTime st_JobStartAndEnd_2)))
        (clearStopTime (addStopTime (judgeJobTime st_JobStartAndEnd_2)))),
    9, { src := 12, left := 100, right := 120, seq := some 4, time := some 5000 },
    (coldSpotNow st_JobStartAndEnd_2),
    by decide +kernel⟩

theorem test_meets_JobStartAndEnd_3 : ∃ (s : State) (src : Addr),
      Takes s src [1] ∧
      s.cfg.node = .run ∧
      s.trv.state = .unknown :=
  ⟨st_JobStartAndEnd_3, 9, by decide +kernel⟩

theorem test_meets_JobStartAndEnd_4 : ∃ (s : State) (src : Addr),
      Takes s src [2] ∧
      s.cfg.node ≠ .setup ∧
      s.trv.jobOpen = false :=
  ⟨st_JobStartAndEnd_1, 9, by decide +kernel⟩

theorem test_meets_JobStartAndEnd_5 : ∃ (s u v : State) (src : Addr) (w : ColdSpot),
      Takes s src [2] ∧
      s.cfg.node ≠ .setup ∧
      s.trv.jobOpen = true ∧
      s.ring.held ≤ 4096 ∧
      u = addStopTime (judgeJobTime s) ∧
      v = ringWrite (buildRecord 1 u) (clearStopTime u) ∧
      w = coldSpotNow u :=
  ⟨st_JobStartAndEnd_5, (addStopTime (judgeJobTime st_JobStartAndEnd_5)),
    (ringWrite (buildRecord 1 (addStopTime (judgeJobTime st_JobStartAndEnd_5)))
        (clearStopTime (addStopTime (judgeJobTime st_JobStartAndEnd_5)))),
    9, (coldSpotNow st_JobStartAndEnd_5),
    by decide +kernel⟩

theorem test_meets_JobStartAndEnd_6 : ∃ (s : State) (src : Addr) (tag : Byte) (c : Instr) (b : Byte),
      Takes s src [b] ∧
      s.cfg.node ≠ .setup ∧
      b ≠ 1 ∧
      b ≠ 2 ∧
      (c = .jobStart src tag [b] ∨ c = .jobEnd src tag [b]) :=
  ⟨st_JobStartAndEnd_2, 9, 7, .jobEnd 9 7 [3], 3, by decide +kernel⟩

theorem test_meets_JobStartAndEnd_7 : ∃ (s : State) (src : Addr) (tag : Byte) (c : Instr) (payload : List Byte),
      Takes s src payload ∧
      (s.cfg.node = .run ∨ (s.cfg.node = .halt ∧ payload.head? ≠ some 1)) ∧
      payload.length ≠ 1 ∧
      (c = .jobStart src tag payload ∨ c = .jobEnd src tag payload) :=
  ⟨st_JobStartAndEnd_5, 9, 7, .jobEnd 9 7 [], [], by decide +kernel⟩

theorem test_meets_ReadoutRequestsAct_1 : ∃ (s : State) (src : Addr) (k mode s2 s1 s0 c1 c0 h o : Byte) (n : Fin 4)
    (q : Seq) (c m : Nat),
      Takes s src [1, k, mode, s2, s1, s0, c1, c0, h, o] ∧
      k.toNat = n.val ∧
      mode.toNat ≤ 2 ∧
      q = (if mode = 0 then seq24 s2 s1 s0 else if mode = 1 then s.ring.nextSeq - BitVec.ofNat 24 s.ring.held
        else s.ring.nextSeq) ∧
      (s.channel n).state = .idle ∧
      (s.ring.nextSeq - q).toNat ≤ 8388608 ∧
      s.lnk.slotB.isSome = true ∧
      c = min 4095 (u16 c1 c0) ∧
      m = min 3 h.toNat :=
  ⟨st_ReadoutRequestsAct_1, 9, 2, 1, 0, 0, 0, 255, 0, 4, 3, 2, 0, 4095, 3, by decide +kernel⟩

theorem test_meets_ReadoutRequestsAct_2 : ∃ (s v : State) (src : Addr) (k mode s2 s1 s0 c1 c0 h o : Byte) (n : Fin 4)
    (q : Seq) (c m : Nat),
      Takes s src [1, k, mode, s2, s1, s0, c1, c0, h, o] ∧
      k.toNat = n.val ∧
      mode.toNat ≤ 2 ∧
      q = (if mode = 0 then seq24 s2 s1 s0 else if mode = 1 then s.ring.nextSeq - BitVec.ofNat 24 s.ring.held
        else s.ring.nextSeq) ∧
      (s.channel n).state = .idle ∧
      (s.ring.nextSeq - q).toNat ≤ 8388608 ∧
      s.lnk.slotB = none ∧
      c = min 4095 (u16 c1 c0) ∧
      m = min 3 h.toNat ∧
      v = setChannel n (({
        state := if 0 < m then .headers else .records, owner := some src, next := q, count := c, remaining := c,
        headerCount := m, headersLeft := m, cyclic := o.getLsbD 0, closeFlag := o.getLsbD 1, recordsSent := 0,
        voidsSent := 0, status := .none } : Channel).judged s.ring.nextSeq) s :=
  ⟨st_ReadoutRequestsAct_2,
    (setChannel 2 { Channel.reset with state := .headers, owner := some 9, count := 4095, remaining := 4095,
                                       headerCount := 3, headersLeft := 3, cyclic := true, closeFlag :=
        true } st_ReadoutRequestsAct_2),
    9, 2, 1, 0, 0, 0, 255, 0, 4, 3, 2, 0, 4095, 3,
    by decide +kernel⟩

theorem test_meets_ReadoutRequestsAct_3 : ∃ (s : State) (src : Addr) (k mode s2 s1 s0 c1 c0 h o : Byte) (n : Fin 4)
    (q : Seq),
      Takes s src [1, k, mode, s2, s1, s0, c1, c0, h, o] ∧
      k.toNat = n.val ∧
      mode.toNat ≤ 2 ∧
      q = (if mode = 0 then seq24 s2 s1 s0 else if mode = 1 then s.ring.nextSeq - BitVec.ofNat 24 s.ring.held
        else s.ring.nextSeq) ∧
      (s.channel n).state ≠ .idle :=
  ⟨st_ReadoutRequestsAct_3, 9, 2, 1, 0, 0, 0, 255, 0, 4, 3, 2, 0, by decide +kernel⟩

theorem test_meets_ReadoutRequestsAct_4 : ∃ (s : State) (src : Addr) (k mode s2 s1 s0 c1 c0 h o : Byte) (n : Fin 4)
    (q : Seq),
      Takes s src [1, k, mode, s2, s1, s0, c1, c0, h, o] ∧
      k.toNat = n.val ∧
      mode.toNat ≤ 2 ∧
      q = (if mode = 0 then seq24 s2 s1 s0 else if mode = 1 then s.ring.nextSeq - BitVec.ofNat 24 s.ring.held
        else s.ring.nextSeq) ∧
      (s.channel n).state = .idle ∧
      8388608 < (s.ring.nextSeq - q).toNat :=
  ⟨st_ReadoutRequestsAct_4, 9, 2, 0, 0, 0, 6, 255, 0, 4, 3, 2, 6, by decide +kernel⟩

theorem test_meets_ReadoutRequestsAct_5 : ∃ (s : State) (src : Addr) (k : Byte) (n : Fin 4),
      Takes s src [2, k] ∧
      k.toNat = n.val ∧
      (s.channel n).state = .idle :=
  ⟨st_ReadoutRequestsAct_4, 9, 2, 2, by decide +kernel⟩

theorem test_meets_ReadoutRequestsAct_6 : ∃ (s : State) (src : Addr) (k : Byte) (n : Fin 4),
      Takes s src [2, k] ∧
      k.toNat = n.val ∧
      (s.channel n).state ≠ .idle ∧
      (s.channel n).owner ≠ some src :=
  ⟨st_ReadoutRequestsAct_6, 9, 2, 2, by decide +kernel⟩

theorem test_meets_ReadoutRequestsAct_7 : ∃ (s : State) (src : Addr) (k : Byte) (n : Fin 4) (c : Channel),
      Takes s src [2, k] ∧
      k.toNat = n.val ∧
      c = s.channel n ∧
      (c.state = .headers ∨ c.state = .records ∨ c.state = .wait) ∧
      c.owner = some src ∧
      s.lnk.slotB.isSome = true :=
  ⟨st_ReadoutRequestsAct_7, 9, 2, 2, (st_ReadoutRequestsAct_7.channel 2), by decide +kernel⟩

theorem test_meets_ReadoutRequestsAct_8 : ∃ (s : State) (src : Addr) (k : Byte) (n : Fin 4),
      Takes s src [2, k] ∧
      k.toNat = n.val ∧
      (s.channel n).state = .closing ∧
      (s.channel n).owner = some src ∧
      s.lnk.slotB.isSome = true :=
  ⟨st_ReadoutRequestsAct_8, 9, 2, 2, by decide +kernel⟩

theorem test_meets_ReadoutRequestsAct_9 : ∃ (s v : State) (src : Addr) (k : Byte) (n : Fin 4) (c : Channel),
      Takes s src [2, k] ∧
      k.toNat = n.val ∧
      c = s.channel n ∧
      c.state ≠ .idle ∧
      c.owner = some src ∧
      s.lnk.slotB = none ∧
      v = setChannel n (if c.state = .closing then c
        else if c.closeFlag then { c with state := .closing, status := .stopped, cyclic := false }
        else { c with state := .idle, status := .stopped, cyclic := false, owner := none }) s :=
  ⟨st_ReadoutRequestsAct_9,
    (setChannel 2 { st_ReadoutRequestsAct_9.channel 2 with state := .closing, status := .stopped,
                                                           cyclic := false } st_ReadoutRequestsAct_9),
    9, 2, 2, (st_ReadoutRequestsAct_9.channel 2),
    by decide +kernel⟩

theorem test_meets_ReadoutRequestsAct_10 : ∃ (s : State) (src : Addr) (k : Byte) (n : Fin 4),
      Takes s src [3, k] ∧
      k.toNat = n.val :=
  ⟨st_ReadoutRequestsAct_10, 9, 2, 2, by decide +kernel⟩

theorem test_meets_ReadoutRequestsAct_11 : ∃ (s : State) (src : Addr) (tag : Byte) (c : Instr) (payload : List Byte),
      Takes s src payload ∧
      (c = .readoutOpen src tag payload ∨ c = .readoutStop src tag payload ∨ c = .readoutStatus src tag payload) ∧
      ((payload.head?.any fun op => decide (op = 0 ∨ 3 < op.toNat)) = true ∨
        (payload.head? = some 1 ∧ payload.length = 10 ∧ (3 < (payload.getD 1 0).toNat ∨ 2 < (payload.getD 2 0).toNat)) ∨
        ((payload.head? = some 2 ∨ payload.head? = some 3) ∧ payload.length = 2 ∧ 3 < (payload.getD 1 0).toNat)) :=
  ⟨base, 9, 7, .readoutStop 9 7 [2, 4], [2, 4], by decide +kernel⟩

theorem test_meets_ReadoutRequestsAct_12 : ∃ (s : State) (src : Addr) (tag : Byte) (c : Instr) (payload : List Byte),
      Takes s src payload ∧
      (c = .readoutOpen src tag payload ∨ c = .readoutStop src tag payload ∨ c = .readoutStatus src tag payload) ∧
      (payload = [] ∨ (payload.head? = some 1 ∧ payload.length ≠ 10) ∨
        ((payload.head? = some 2 ∨ payload.head? = some 3) ∧ payload.length ≠ 2)) :=
  ⟨base, 9, 7, .readoutStop 9 7 [2], [2], by decide +kernel⟩

theorem test_meets_CounterAlertCheckRequestsAct_1 : ∃ (s : State) (src : Addr) (k e : Byte) (n : Fin 4)
    (v : Vector Counter 4),
      Takes s src [1, k, e] ∧
      k.toNat = n.val ∧
      e.toNat ≤ 24 ∧
      v = s.evc.counters.set n { s.counter n with selection := e.toNat, value := 0, capture := none } :=
  ⟨st_CounterAlertCheckRequestsAct_1, 9, 2, 24, 2,
    #v[{ selection := 5, value := 3, threshold := 4, capture := none },
        { selection := 5, value := 16777215, threshold := 0, capture := none },
        { selection := 24, value := 0, threshold := 1, capture := none },
        { selection := 0, value := 0, threshold := 9, capture := none }],
    by decide +kernel⟩

theorem test_meets_CounterAlertCheckRequestsAct_2 : ∃ (s : State) (src : Addr) (k t2 t1 t0 : Byte) (n : Fin 4)
    (v : Vector Counter 4),
      Takes s src [3, k, t2, t1, t0] ∧
      k.toNat = n.val ∧
      v = s.evc.counters.set n { s.counter n with threshold := (seq24 t2 t1 t0).toNat } :=
  ⟨st_CounterAlertCheckRequestsAct_1, 9, 2, 0, 1, 0, 2,
    #v[{ selection := 5, value := 3, threshold := 4, capture := none },
        { selection := 5, value := 16777215, threshold := 0, capture := none },
        { selection := 1, value := 3, threshold := 256, capture := some { counter := 2, event := 1, time := 1,
                                                                          index := 2, item := 3 } },
        { selection := 0, value := 0, threshold := 9, capture := none }],
    by decide +kernel⟩

theorem test_meets_CounterAlertCheckRequestsAct_3 : ∃ (s : State) (src : Addr) (k f : Byte) (n : Fin 4)
    (v : Vector Counter 4),
      Takes s src [2, k, f] ∧
      k.toNat = n.val ∧
      f.toNat ≤ 1 ∧
      v = (if f = 1 then s.evc.counters.map fun c => { c with value := 0, capture := none } else s.evc.counters) :=
  ⟨st_CounterAlertCheckRequestsAct_1, 9, 2, 0, 2,
    #v[{ selection := 5, value := 3, threshold := 4, capture := none },
        { selection := 5, value := 16777215, threshold := 0, capture := none },
        { selection := 1, value := 3, threshold := 1, capture := some { counter := 2, event := 1, time := 1,
                                                                        index := 2, item := 3 } },
        { selection := 0, value := 0, threshold := 9, capture := none }],
    by decide +kernel⟩

theorem test_meets_CounterAlertCheckRequestsAct_4 : ∃ (s : State) (src : Addr) (hi lo : Byte) (m : Bits)
    (l : List Frame),
      Takes s src [1, hi, lo] ∧
      LinkLaw s ∧
      m = s.alr.mask ||| (set16 hi lo &&& 0x0FFF) ∧
      l = (alertSources.filter fun a => hasBit m (a.number - 1) && !hasBit s.alr.mask (a.number - 1) &&
          hasBit s.alr.present (a.number - 1)).map (fun a => ({
        dst := 15, tag := 0, resets := false,
        body := .alert { source := a.number, present := s.alr.present, mask := m } } : Frame)) :=
  ⟨st_CounterAlertCheckRequestsAct_4, 9, 240, 2,
    (let s := base; let s := (let s := takes s; s.setAlr { present := BitVec.ofNat 16 (s.now.toNat * 37 % 4096),
                                                           mask := BitVec.ofNat 16 (s.now.toNat * 91 % 4096) });
        s.alr.mask ||| 2),
    [],
    by decide +kernel⟩

theorem test_meets_CounterAlertCheckRequestsAct_5 : ∃ (s : State) (src : Addr) (hi lo : Byte) (m : Bits),
      Takes s src [2, hi, lo] ∧
      m = s.alr.mask &&& ~~~ set16 hi lo :=
  ⟨st_CounterAlertCheckRequestsAct_5, 9, 255, 255, 0, by decide +kernel⟩

theorem test_meets_CounterAlertCheckRequestsAct_6 : ∃ (s : State) (src : Addr),
      Takes s src [3] :=
  ⟨st_CounterAlertCheckRequestsAct_5, 9, by decide +kernel⟩

theorem test_meets_CounterAlertCheckRequestsAct_7 : ∃ (s : State) (src : Addr) (hi lo : Byte) (p : Bits),
      Takes s src [4, hi, lo] ∧
      p = s.alr.present &&& ~~~ (set16 hi lo &&& 0x0C98) :=
  ⟨st_CounterAlertCheckRequestsAct_5, 9, 0, 8, (st_CounterAlertCheckRequestsAct_5.alr.present &&& 0xFFF7),
    by decide +kernel⟩

theorem test_meets_CounterAlertCheckRequestsAct_8 : ∃ (a : Alr) (h : Nat),
      h = highestAlert a :=
  ⟨{ present := 0x0800, mask := 0xFFFF }, 12, by decide +kernel⟩

theorem test_meets_CounterAlertCheckRequestsAct_9 : ∃ (s : State) (src : Addr),
      Takes s src [1] :=
  ⟨st_CounterAlertCheckRequestsAct_9, 9, by decide +kernel⟩

theorem test_meets_CounterAlertCheckRequestsAct_10 : ∃ (s : State) (src : Addr),
      Takes s src [2] :=
  ⟨base, 9, by decide +kernel⟩

theorem test_meets_CounterAlertCheckRequestsAct_11 : ∃ (s : State) (src : Addr) (tag : Byte) (c : Instr)
    (payload : List Byte),
      Takes s src payload ∧
      (((c = .counterSelect src tag payload ∨ c = .counterRead src tag payload ∨
          c = .counterThreshold src tag payload) ∧
          ((payload.head?.any fun op => decide (op = 0 ∨ 3 < op.toNat)) = true ∨
            ((payload.head? = some 1 ∨ payload.head? = some 2) ∧ payload.length = 3 ∧ 3 < (payload.getD 1 0).toNat) ∨
            (payload.head? = some 1 ∧ payload.length = 3 ∧ 24 < (payload.getD 2 0).toNat) ∨
            (payload.head? = some 2 ∧ payload.length = 3 ∧ 1 < (payload.getD 2 0).toNat) ∨
            (payload.head? = some 3 ∧ payload.length = 5 ∧ 3 < (payload.getD 1 0).toNat))) ∨
        ((c = .alertMaskSet src tag payload ∨ c = .alertMaskClear src tag payload ∨ c = .alertQuery src tag payload ∨
            c = .alertAck src tag payload) ∧
          (payload.head?.any fun op => decide (op = 0 ∨ 4 < op.toNat)) = true) ∨
        ((c = .checkRead src tag payload ∨ c = .checkParityTest src tag payload) ∧ payload.length = 1 ∧
            payload.head? ≠ some 1 ∧ payload.head? ≠ some 2)) :=
  ⟨base, 9, 7, .counterRead 9 7 [2, 1, 2], [2, 1, 2], by decide +kernel⟩

theorem test_meets_CounterAlertCheckRequestsAct_12 : ∃ (s : State) (src : Addr) (tag : Byte) (c : Instr)
    (payload : List Byte),
      Takes s src payload ∧
      (((c = .counterSelect src tag payload ∨ c = .counterRead src tag payload ∨
          c = .counterThreshold src tag payload) ∧
          (payload = [] ∨ ((payload.head? = some 1 ∨ payload.head? = some 2) ∧ payload.length ≠ 3) ∨
            (payload.head? = some 3 ∧ payload.length ≠ 5))) ∨
        ((c = .alertMaskSet src tag payload ∨ c = .alertMaskClear src tag payload ∨ c = .alertQuery src tag payload ∨
            c = .alertAck src tag payload) ∧
          (payload = [] ∨ (payload.head? = some 3 ∧ payload.length ≠ 1) ∨
            ((payload.head? = some 1 ∨ payload.head? = some 2 ∨ payload.head? = some 4) ∧ payload.length ≠ 3))) ∨
        ((c = .checkRead src tag payload ∨ c = .checkParityTest src tag payload) ∧ payload.length ≠ 1)) :=
  ⟨base, 9, 7, .alertQuery 9 7 [], [], by decide +kernel⟩

end Sys2Proof.Tests
end

/-! ## The taken request: its REPLY, its event and its frame -/

section
namespace Sys2Proof.Safety

open Sys2Proof.Machine

/-! ### Slot U's queue while the line is busy -/

/-- Between `s` and `t` nothing of LNK has changed but slot U's queue, which is `q` in `t`, and the line, which is busy. -/
structure OnlyQueueU (q : List Machine.Frame) (s t : State) : Prop where
  queue : queuedU t = q
  link : KeepsLink s t
  quietP : QuietP s t
  sending : t.lnk.sending = s.lnk.sending
  busy : t.lnk.lineIdle = false

theorem OnlyQueueU.trans {q r : List Machine.Frame} {s t u : State} (h : OnlyQueueU q s t) (k : OnlyQueueU r t u) :
    OnlyQueueU r s u where
  queue := k.queue
  link := h.link.trans k.link
  quietP := ⟨k.quietP.1.trans h.quietP.1, k.quietP.2.trans h.quietP.2⟩
  sending := k.sending.trans h.sending
  busy := k.busy

theorem OnlyQueueU.of_lnk {s t : State} (same : t.lnk = s.lnk) (busy : s.lnk.lineIdle = false) :
    OnlyQueueU (queuedU s) s t where
  queue := by simp only [queuedU, same]
  link := KeepsLink.of_lnk same
  quietP := by simp only [QuietP, same, and_self]
  sending := by rw [same]
  busy := by rw [same, busy]

/-- On a busy line no frame begins (R181). -/
theorem beginFrame_busy (s : State) (busy : s.lnk.lineIdle = false) : beginFrame s = s := by
  obtain h | ⟨_, -, idle, -⟩ := beginFrame_cases s
  · exact h
  · rw [busy] at idle; contradiction

theorem fillU_queue (s : State) (busy : s.lnk.lineIdle = false) : OnlyQueueU (queuedU s) s (fillU s) := by
  obtain h | ⟨f, rest, empty, list, h⟩ := fillU_cases s <;> rw [h]
  · exact OnlyQueueU.of_lnk rfl busy
  · exact { queue := by simp [queuedU, empty, list], link := ⟨rfl, rfl, rfl, rfl⟩, quietP := ⟨rfl, rfl⟩, sending := rfl,
            busy := busy }

/-- A frame pushed while the line is busy stands last in slot U's queue (R187). -/
theorem pushU_queue (f : Machine.Frame) (s : State) (busy : s.lnk.lineIdle = false) :
    OnlyQueueU (queuedU s ++ [f]) s (pushU f s) := by
  have joined : OnlyQueueU (queuedU s ++ [f]) s (s.setLnk { s.lnk with uList := s.lnk.uList ++ [f] }) :=
    { queue := by simp [queuedU], link := ⟨rfl, rfl, rfl, rfl⟩, quietP := ⟨rfl, rfl⟩, sending := rfl, busy := busy }
  have filled := joined.trans (fillU_queue _ joined.busy)
  rw [joined.queue] at filled
  rw [pushU, beginFrame_busy _ filled.busy]
  exact filled

/-- A frame pushed leaves slot U occupied: by itself or by one that waited before it (R187). -/
theorem pushU_slotU (f : Machine.Frame) (s : State) (busy : s.lnk.lineIdle = false) :
    (pushU f s).lnk.slotU.isSome = true := by
  have filled := fillU_queue (s.setLnk { s.lnk with uList := s.lnk.uList ++ [f] }) busy
  rw [pushU, beginFrame_busy _ filled.busy, fillU]
  cases slot : s.lnk.slotU with
  | some g => simp [slot]
  | none => cases list : s.lnk.uList <;> simp [slot]

/-- With slot U occupied the `n`-th frame of its queue is the one that `putReply` replaces. -/
theorem putReply_queue (n : Nat) (f : Machine.Frame) (s : State) (busy : s.lnk.lineIdle = false)
    (occupied : s.lnk.slotU.isSome = true) : OnlyQueueU ((queuedU s).set n f) s (putReply n f s) := by
  obtain ⟨g, slot⟩ := Option.isSome_iff_exists.mp occupied
  cases n with
  | zero =>
    exact { queue := by simp [queuedU, putReply, slot], link := ⟨rfl, rfl, rfl, rfl⟩, quietP := ⟨rfl, rfl⟩, sending := rfl,
            busy := busy }
  | succ n =>
    exact { queue := by simp [queuedU, putReply, slot], link := ⟨rfl, rfl, rfl, rfl⟩, quietP := ⟨rfl, rfl⟩, sending := rfl,
            busy := busy }

/-- Between `s` and `t` only ALERT frames have joined slot U's queue, at its tail, while the line is busy. -/
def AlertsJoin (s t : State) : Prop :=
  ∃ alerts : List Machine.Frame, (∀ f ∈ alerts, Frame.isAlert f = true) ∧ OnlyQueueU (queuedU s ++ alerts) s t

theorem AlertsJoin.of_lnk {s t : State} (same : t.lnk = s.lnk) (busy : s.lnk.lineIdle = false) : AlertsJoin s t :=
  ⟨[], by simp, by simpa using OnlyQueueU.of_lnk same busy⟩

/-- Where the operations before have left LNK alone, what joins after them has joined since. -/
theorem AlertsJoin.of_start {s t u : State} (h : t.lnk.lineIdle = false → AlertsJoin t u) (same : t.lnk = s.lnk)
    (busy : s.lnk.lineIdle = false) : AlertsJoin s u := by
  obtain ⟨alerts, onlyAlerts, joined⟩ := h (by rw [same, busy])
  have start := OnlyQueueU.of_lnk same busy
  rw [start.queue] at joined
  exact ⟨alerts, onlyAlerts, start.trans joined⟩

theorem queueAlert_joins (a : AlertSource) (s : State) (busy : s.lnk.lineIdle = false) :
    AlertsJoin s (queueAlert a s) := by
  unfold queueAlert
  split
  · exact ⟨_, by simp [Frame.isAlert], pushU_queue _ s busy⟩
  · exact AlertsJoin.of_lnk rfl busy

theorem raise_joins (a : AlertSource) (s : State) (busy : s.lnk.lineIdle = false) : AlertsJoin s (raise a s) := by
  unfold raise
  dsimp only
  split
  · exact AlertsJoin.of_lnk rfl busy
  · split
    · exact AlertsJoin.of_start (queueAlert_joins a _) rfl busy
    · exact AlertsJoin.of_lnk rfl busy

/-- Counting an event on a busy line queues at most the ALERT of source 11 (R172, R180). -/
theorem countBy_joins (e : Event) (item amount : Nat) (s : State) (busy : s.lnk.lineIdle = false) :
    AlertsJoin s (countBy e item amount s) := by
  unfold countBy
  dsimp only
  split
  · exact AlertsJoin.of_start (raise_joins .threshold _) rfl busy
  · exact AlertsJoin.of_lnk rfl busy

/-! ### The course of a taken request -/

/-- The state in which a taken request acts: its frame heard, its REPLY's place taken (R15, R190; log 11). -/
def opened (src : Addr) (tag : Byte) (s : State) : State := pushU (openReply src tag) (hear src (lineBusy s))

/-- The end of a taken request: its REPLY completed in its place, its event counted (R191). -/
def concluded (n : Nat) (src : Addr) (tag : Byte) (a : Answer) : State :=
  countAnswer src a.code (putReply n (replyFrame src tag a) a.state)

theorem opened_keeps (src : Addr) (tag : Byte) (s : State) : KeepsAllBut [.lnk, .ptb] s (opened src tag s) := by
  have heard : KeepsAllBut [.lnk, .ptb] s (hear src (lineBusy s)) :=
    ((lineBusy_keeps s).mono (by decide)).trans ((hear_keeps src _).mono (by decide))
  exact heard.trans ((pushU_keeps _ _).mono (by decide))

theorem opened_ptb (src : Addr) (tag : Byte) (s : State) : (opened src tag s).ptb = (hear src s).ptb :=
  (pushU_keeps (openReply src tag) (hear src (lineBusy s))).ptb

theorem opened_queue (src : Addr) (tag : Byte) (s : State) :
    OnlyQueueU (queuedU s ++ [openReply src tag]) s (opened src tag s) := by
  have heard : OnlyQueueU (queuedU s) s (hear src (lineBusy s)) :=
    { queue := rfl, link := ⟨rfl, rfl, rfl, rfl⟩, quietP := ⟨rfl, rfl⟩, sending := rfl, busy := rfl }
  exact heard.trans (pushU_queue (openReply src tag) (hear src (lineBusy s)) rfl)

theorem opened_slotU (src : Addr) (tag : Byte) (s : State) : (opened src tag s).lnk.slotU.isSome = true :=
  pushU_slotU _ _ rfl

theorem concluded_keeps (n : Nat) (src : Addr) (tag : Byte) (a : Answer) :
    KeepsAllBut [.lnk, .evc, .alr] a.state (concluded n src tag a) :=
  ((putReply_keeps n _ a.state).mono (by decide)).trans (countAnswer_keeps src a.code _)

/-- A request that the node takes is opened, passes the gate or not, and is concluded (R190, R191). -/
theorem request_taken (k : RequestKind) (src : Addr) (tag : Byte) (payload : List Byte) (act : State → Answer) (s : State)
    (takes : Takes s src payload) :
    request k src tag payload act s = .next (concluded (queuedU s).length src tag
      (if k.gate payload (opened src tag s) then act (opened src tag s)
       else refuse .refusedState (opened src tag s))) := by
  obtain ⟨released, short, not15, other, noReset, room⟩ := takes
  have place : (queuedU s).length = waitingU (hear src (lineBusy s)) := List.length_append
  rw [request_eq, received_taken src payload _ s released short not15 other,
    intake_takes src tag _ act (hear src (lineBusy s)) noReset room, place]
  rfl

/-- The parts that a taken request writes or reads beside its action. -/
def requestParts : List Part := [.now, .trv, .lnk, .ptb, .evc, .alr]

/-- The link after a request whose action leaves LNK alone: the REPLY behind what waited, then ALERT frames only. -/
theorem concluded_queue (src : Addr) (tag : Byte) (s : State) (a : Answer)
    (lnk : a.state.lnk = (opened src tag s).lnk) :
    ∃ alerts : List Machine.Frame, (∀ f ∈ alerts, Frame.isAlert f = true) ∧
      OnlyQueueU (queuedU s ++ replyFrame src tag a :: alerts) s (concluded (queuedU s).length src tag a) := by
  have start := opened_queue src tag s
  have acted := start.trans (OnlyQueueU.of_lnk lnk start.busy)
  have put := putReply_queue (queuedU s).length (replyFrame src tag a) a.state acted.busy
    (by rw [lnk]; exact opened_slotU src tag s)
  obtain ⟨alerts, onlyAlerts, counted⟩ := countBy_joins (answerEvent a.code) src 1 _ put.busy
  refine ⟨alerts, onlyAlerts, ?_⟩
  have whole := (acted.trans put).trans counted
  have queue : queuedU (putReply (queuedU s).length (replyFrame src tag a) a.state) =
      queuedU s ++ [replyFrame src tag a] := by
    rw [put.queue, acted.queue, start.queue, List.set_append_right _ _ (Nat.le_refl _), Nat.sub_self]
    rfl
  rw [queue, List.append_assoc] at whole
  exact whole

/-- The REPLY of a request whose action leaves LNK alone stands behind everything that waited (R191). -/
theorem concluded_replied (src : Addr) (tag : Byte) (s : State) (a : Answer)
    (lnk : a.state.lnk = (opened src tag s).lnk) :
    Replied s (concluded (queuedU s).length src tag a) src tag a.code a.content := by
  obtain ⟨alerts, onlyAlerts, whole⟩ := concluded_queue src tag s a lnk
  obtain ⟨-, -, -, kept⟩ := whole.link
  obtain ⟨-, -, -, keptBefore⟩ := (opened_queue src tag s).link
  have resets : a.state.lnk.resetPending = (concluded (queuedU s).length src tag a).lnk.resetPending := by
    rw [kept, lnk, keptBefore]
  refine ⟨?_, ?_, ?_⟩
  · rw [whole.queue, List.take_left]
  · rw [whole.queue, ← resets, List.getElem?_append_right (Nat.le_refl _), Nat.sub_self]
    rfl
  · intro f hf
    rw [whole.queue, List.drop_length_add_append] at hf
    exact onlyAlerts f hf

/-- A request whose action changes only the parts listed, none of those that taking it touches, is answered as the action
says (R190, R191). -/
theorem concluded_answered {changed : List Part} (src : Addr) (tag : Byte) (s : State) (a : Answer)
    (acts : KeepsAllBut changed (opened src tag s) a.state) (apart : ∀ p ∈ requestParts, p ∉ changed) :
    Answered changed s (concluded (queuedU s).length src tag a) src tag a.code a.content := by
  have start := opened_keeps src tag s
  have lnk : a.state.lnk = (opened src tag s).lnk := acts .lnk (apart .lnk (by decide))
  have ptb : a.state.ptb = (opened src tag s).ptb := acts .ptb (apart .ptb (by decide))
  have now : a.state.now = s.now := (acts .now (apart .now (by decide))).trans start.now
  have trv : a.state.trv = s.trv := (acts .trv (apart .trv (by decide))).trans start.trv
  have evc : a.state.evc = s.evc := (acts .evc (apart .evc (by decide))).trans start.evc
  have alr : a.state.alr = s.alr := (acts .alr (apart .alr (by decide))).trans start.alr
  have put := putReply_keeps (queuedU s).length (replyFrame src tag a) a.state
  obtain ⟨_, -, whole⟩ := concluded_queue src tag s a lnk
  refine ⟨concluded_replied src tag s a lnk, ?frame, ?ptb, .inr ?counters, .inr ?alr,
    .inr ⟨whole.link, whole.quietP⟩, whole.sending, whole.busy⟩
  case frame =>
    exact ((start.mono (by simp)).trans (acts.mono (by simp +contextual))).trans
      ((concluded_keeps _ src tag a).mono (by simp))
  case ptb => rw [(concluded_keeps _ src tag a).ptb, ptb, opened_ptb]
  case counters =>
    have counted := countBy_counters (answerEvent a.code) src 1 (putReply (queuedU s).length (replyFrame src tag a) a.state)
    rw [put.now, put.trv, put.evc, now, trv, evc] at counted
    exact counted
  case alr =>
    have latched := countBy_alr (answerEvent a.code) src 1 (putReply (queuedU s).length (replyFrame src tag a) a.state)
    rw [put.evc, put.alr, evc, alr] at latched
    refine Eq.trans latched ?_
    unfold presentAfter
    split <;> rfl

/-- A taken request whose gate is open is answered as its action says, which alone changes the parts listed (R190). -/
theorem request_answered {changed : List Part} (k : RequestKind) (src : Addr) (tag : Byte) (payload : List Byte)
    (act : State → Answer) (s : State) (takes : Takes s src payload)
    (gate : k.gate payload (opened src tag s) = true)
    (acts : KeepsAllBut changed (opened src tag s) (act (opened src tag s)).state)
    (apart : ∀ p ∈ requestParts, p ∉ changed) :
    ∃ t, request k src tag payload act s = .next t ∧
      KeepsAllBut [.lnk, .evc, .alr] (act (opened src tag s)).state t ∧
      Answered changed s t src tag (act (opened src tag s)).code (act (opened src tag s)).content := by
  refine ⟨_, request_taken k src tag payload act s takes, ?_⟩
  rw [if_pos gate]
  exact ⟨concluded_keeps _ src tag _, concluded_answered src tag s _ acts apart⟩

/-- A taken request whose gate is open and whose action refuses gets that refusal, which changes nothing else (R191). -/
theorem request_refused (k : RequestKind) (src : Addr) (tag : Byte) (payload : List Byte) (act : State → Answer) (s : State)
    (code : ReplyCode) (takes : Takes s src payload) (gate : k.gate payload (opened src tag s) = true)
    (refuses : act (opened src tag s) = refuse code (opened src tag s)) :
    ∃ t, request k src tag payload act s = .next t ∧ Answered [] s t src tag code .empty := by
  refine ⟨_, request_taken k src tag payload act s takes, ?_⟩
  rw [if_pos gate, refuses]
  exact concluded_answered src tag s (refuse code _) (KeepsAllBut.refl _ _) (by simp)

/-- A taken request whose gate is shut is REFUSED-STATE, whatever its payload (R3, R190). -/
theorem request_gated (k : RequestKind) (src : Addr) (tag : Byte) (payload : List Byte) (act : State → Answer) (s : State)
    (takes : Takes s src payload) (gate : k.gate payload (opened src tag s) = false) :
    ∃ t, request k src tag payload act s = .next t ∧ Answered [] s t src tag .refusedState .empty := by
  refine ⟨_, request_taken k src tag payload act s takes, ?_⟩
  rw [if_neg (by simp [gate])]
  exact concluded_answered src tag s (refuse .refusedState _) (KeepsAllBut.refl _ _) (by simp)

end Sys2Proof.Safety
end

/-! ## IDENT-READ and CONFIG-SET -/

section
namespace Sys2Proof.Safety

open Sys2Proof.Machine

/-! ### IDENT-READ (R14) -/

theorem exec_identRead (src : Addr) (tag : Byte) (payload : List Byte) (s : State) :
    exec (.identRead src tag payload) s = request .identRead src tag payload (actIdentRead payload) s := rfl

theorem actIdentRead_payload (payload : List Byte) (s : State) (h : payload ≠ []) :
    actIdentRead payload s = refuse .refusedFormat s := by
  cases payload with
  | nil => contradiction
  | cons => rfl

/-- The identification reads only CFG and the HALT input (R14). -/
theorem identNow_congr {s t : State} (cfg : t.cfg = s.cfg) (halt : t.haltInput = s.haltInput) :
    identNow t = identNow s := by
  unfold identNow
  rw [cfg, halt]

/-- In a state obeying node control's law the stored check value is 0 while the configuration is invalid (R11). -/
theorem check_of_nodeLaw {s : State} (law : NodeLaw s) : s.cfg.check = if s.cfg.valid then s.cfg.check else 0 := by
  obtain ⟨-, -, noCheck, -⟩ := law
  cases valid : s.cfg.valid with
  | true => rfl
  | false => exact noCheck valid

theorem identRead_answered (s : State) (src : Addr) (tag : Byte) (takes : Takes s src []) :
    ∃ t, exec (.identRead src tag []) s = .next t ∧ Answered [] s t src tag .done (.ident (identNow s)) := by
  have start := opened_keeps src tag s
  obtain ⟨t, run, -, answered⟩ := request_answered .identRead src tag [] (actIdentRead []) s takes rfl
    (KeepsAllBut.refl [] _) (by simp)
  refine ⟨t, run, ?_⟩
  rw [← identNow_congr start.cfg start.haltInput]
  exact answered

/-! ### CONFIG-SET (R9) -/

theorem exec_configSet (src : Addr) (tag : Byte) (payload : List Byte) (s : State) :
    exec (.configSet src tag payload) s = request .configSet src tag payload (actConfigSet payload) s := rfl

theorem itemOf_putItem_same (items : Vector Int 44) (n : Nat) (v : Int) (least : 1 ≤ n) (most : n ≤ 44) :
    itemOf (putItem items n v) n = v := by
  have inside : n - 1 < 44 := by omega
  simp [itemOf, putItem, Vector.getD, inside]

theorem itemOf_putItem_other (items : Vector Int 44) (n m : Nat) (v : Int) (n1 : 1 ≤ n) (m1 : 1 ≤ m) (other : m ≠ n) :
    itemOf (putItem items n v) m = itemOf items m := by
  have apart : n - 1 ≠ m - 1 := by omega
  simp [itemOf, putItem, Vector.getD, apart]

/-- CONFIG-SET is DONE exactly where the value stored is the one asked for (R9). -/
theorem setItem_code (n : Nat) (v : Int) (s : State) :
    (setItem n v s).code = if clampItem s.cfg.working n v = v then .done else .clamped := by
  by_cases h : clampItem s.cfg.working n v = v <;> simp [setItem, doneOr, h]

theorem actConfigSet_item (n hi lo : Byte) (s : State) (least : 1 ≤ n.toNat) (most : n.toNat ≤ 44) :
    actConfigSet [n, hi, lo] s = setItem n.toNat (s16 hi lo) s := if_pos ⟨least, most⟩

theorem actConfigSet_unknown (n hi lo : Byte) (s : State) (h : n = 0 ∨ 44 < n.toNat) :
    actConfigSet [n, hi, lo] s = refuse .unknown s := by
  refine if_neg ?_
  rintro ⟨least, most⟩
  obtain rfl | above := h
  · exact absurd least (by decide)
  · omega

theorem actConfigSet_length (payload : List Byte) (s : State) (h : payload.length ≠ 3) :
    actConfigSet payload s = refuse .refusedFormat s := by
  unfold actConfigSet
  split
  · contradiction
  · rfl

/-- The gate of CONFIG-SET reads the node state before the request (R3). -/
theorem gate_configSet (payload : List Byte) (src : Addr) (tag : Byte) (s : State) :
    RequestKind.configSet.gate payload (opened src tag s) = (s.cfg.node == .setup) := by
  have same := (opened_keeps src tag s).cfg
  simp only [RequestKind.gate, gateSetup, same]

/-- CONFIG-SET of an item in SETUP: its clamped value stored, every other item and field of CFG as it was (R9). -/
theorem configSet_item (s : State) (src : Addr) (tag n hi lo : Byte) (takes : Takes s src [n, hi, lo])
    (setup : s.cfg.node = .setup) (least : 1 ≤ n.toNat) (most : n.toNat ≤ 44) :
    ∃ t, exec (.configSet src tag [n, hi, lo]) s = .next t ∧
      t.cfg = { s.cfg with
        working := putItem s.cfg.working n.toNat (clampItem s.cfg.working n.toNat (s16 hi lo)) } ∧
      Answered [.cfg] s t src tag
        (if clampItem s.cfg.working n.toNat (s16 hi lo) = s16 hi lo then .done else .clamped)
        (.item n.toNat (clampItem s.cfg.working n.toNat (s16 hi lo))) := by
  have same := (opened_keeps src tag s).cfg
  have acts := actConfigSet_item n hi lo (opened src tag s) least most
  obtain ⟨t, run, kept, answered⟩ := request_answered (changed := [.cfg]) .configSet src tag [n, hi, lo]
    (actConfigSet [n, hi, lo]) s takes (by simp [gate_configSet, setup])
    (by rw [acts]; exact keeps_setCfg _ _) (by decide)
  rw [acts, setItem_code, same] at answered
  refine ⟨t, run, ?_, ?_⟩
  · rw [kept.cfg, acts]
    simp only [setItem, State.setCfg_cfg, same]
  · simpa only [setItem, same] using answered

/-! ### The working items after a reset (R9) -/

theorem powerUp_working (pins : StrapPins) (s : State) : (powerUp pins s).cfg.working = defaultItems := by
  rw [powerUp, (latchAtReset_keeps _ _).cfg]
  rfl

/-- A damaged configuration: SETUP, with the defaults as working items (R12). -/
theorem cfg_warmReset_damaged (c : Cfg) (p : Straps) (damaged : isSound c p = false) :
    (c.warmReset p).node = .setup ∧ (c.warmReset p).working = defaultItems := by
  simp [Cfg.warmReset, damaged, Cfg.measured]

theorem isSound_eq_false {c : Cfg} {p : Straps} (h : c.valid = false ∨ checkValue c.committed p ≠ c.check) :
    isSound c p = false := by
  obtain invalid | wrong := h
  · simp [isSound, invalid]
  · simp [isSound, wrong]

/-- Where the warm reset does not enter RUN, CFG is as its own reset leaves it: HALT entry needs RUN (R5, R12). -/
theorem warmReset_cfg (pins : StrapPins) (s : State) (setup : (s.cfg.warmReset (readStraps pins)).node = .setup) :
    (warmReset pins s).cfg = s.cfg.warmReset (readStraps pins) := by
  have queued (u : State) : (queueDemand (recomputeNeed u)).cfg = u.cfg :=
    (queueDemand_keeps _).cfg.trans (recomputeNeed_keeps u).cfg
  have latched (b : Bool) : (latchAtReset b (resetBlocks pins s)).cfg = s.cfg.warmReset (readStraps pins) :=
    (latchAtReset_keeps b _).cfg
  unfold warmReset
  simp [queued, latched, setup]

end Sys2Proof.Safety
end

/-! ## The statements settled -/

section
namespace Sys2Proof.Safety

open Sys2Proof Sys2Proof.Machine

/-- Settles O26: the identification read from the state before the request, since hearing the request and holding its
REPLY's place leave CFG and the HALT input alone. -/
theorem identReadAnswersIdentity : Obligations.IdentReadAnswersIdentity := by
  unfold Obligations.IdentReadAnswersIdentity
  refine ⟨?identity, ?format⟩
  case identity =>
    intro s src tag takes law
    rw [← check_of_nodeLaw law]
    exact identRead_answered s src tag takes
  case format =>
    intro s src tag payload takes nonempty
    exact request_refused .identRead src tag payload _ s .refusedFormat takes rfl (actIdentRead_payload _ _ nonempty)

/-- Settles O27, by the forms of CONFIG-SET's payload and the node state, then by the two resets. -/
theorem configSetStoresClampedItem : Obligations.ConfigSetStoresClampedItem := by
  unfold Obligations.ConfigSetStoresClampedItem
  refine ⟨?stored, ?unknown, ?format, ?gated, ?poweredUp, ?damaged⟩
  case stored =>
    rintro s src tag n hi lo least most stored takes setup n1 n44 rfl rfl rfl
    obtain ⟨t, run, cfg, answered⟩ := configSet_item s src tag n hi lo takes setup n1 n44
    have working := congrArg Cfg.working cfg
    dsimp only at working
    refine ⟨t, run, by rw [working]; exact cfg, ?_, ?_, answered⟩
    · rw [working]
      exact itemOf_putItem_same _ _ _ n1 n44
    · intro m m1 other
      rw [working]
      exact itemOf_putItem_other _ _ _ _ n1 m1 other
  case unknown =>
    intro s src tag n hi lo takes setup outside
    exact request_refused .configSet src tag _ _ s .unknown takes (by simp [gate_configSet, setup])
      (actConfigSet_unknown n hi lo _ outside)
  case format =>
    intro s src tag payload takes setup length
    exact request_refused .configSet src tag payload _ s .refusedFormat takes (by simp [gate_configSet, setup])
      (actConfigSet_length payload _ length)
  case gated =>
    intro s src tag payload takes working
    exact request_gated .configSet src tag payload _ s takes (by simp [gate_configSet, working])
  case poweredUp => exact fun s pins => ⟨_, rfl, powerUp_working pins s⟩
  case damaged =>
    intro s pins damaged
    obtain ⟨node, working⟩ := cfg_warmReset_damaged s.cfg (readStraps pins) (isSound_eq_false damaged)
    have cfg := warmReset_cfg pins s node
    exact ⟨_, rfl, by rw [cfg, node], by rw [cfg, working]; rfl⟩

end Sys2Proof.Safety
end

/-! ## The ALERT line: the mask, what keeps it and what clears it -/

section
namespace Sys2Proof.Safety

open Sys2Proof.Machine

/-! ### The line as a function of the present set and the mask (R179) -/

theorem hasBit_and (x y : Bits) (n : Nat) : hasBit (x &&& y) n = (hasBit x n && hasBit y n) := BitVec.getLsbD_and

/-- A set of sources is empty exactly when none of its sixteen bits is set. -/
theorem bits_eq_zero_iff (x : Bits) : x = 0 ↔ ∀ n : Fin 16, hasBit x n.val = false := by
  constructor
  · rintro rfl n
    exact BitVec.getLsbD_zero
  · intro clear
    apply BitVec.eq_of_getLsbD_eq
    intro i inside
    exact (clear ⟨i, inside⟩).trans BitVec.getLsbD_zero.symm

theorem alertLine_iff (s : State) :
    alertLine s = true ↔ s.resetLine = false ∧ ∃ n : Fin 16, hasBit s.alr.present n.val = true ∧
      hasBit s.alr.mask n.val = true := by
  have enabled : s.alr.present &&& s.alr.mask ≠ 0 ↔
      ∃ n : Fin 16, hasBit s.alr.present n.val = true ∧ hasBit s.alr.mask n.val = true := by
    rw [ne_eq, bits_eq_zero_iff]
    simp [hasBit_and]
  rw [← enabled]
  simp [alertLine]

/-- With every source inhibited the line is released, whatever is present (R179). -/
theorem alertLine_of_mask_zero (s : State) (inhibited : s.alr.mask = 0) : alertLine s = false := by
  simp [alertLine, inhibited]

/-! ### The operations that keep the mask

A source that comes or goes changes the present set only: the mask is written by ALERT MASK-SET, by
ALERT MASK-CLEAR and by a reset (R11, R12, R175, R177). -/

theorem raise_mask (a : AlertSource) (s : State) : (raise a s).alr.mask = s.alr.mask := by rw [raise_alr]

theorem raise_if_mask (a : AlertSource) (c : Bool) (s : State) :
    (if c then raise a s else s).alr.mask = s.alr.mask := by
  split
  · exact raise_mask a s
  · rfl

theorem count_mask (e : Event) (item : Nat) (s : State) : (count e item s).alr.mask = s.alr.mask := by
  rw [count, countBy_alr]
  split <;> rfl

theorem judgeOverload_mask (s : State) : (judgeOverload s).alr.mask = s.alr.mask := follow_mask _ _ s

theorem withdrawClaim_mask (s : State) : (withdrawClaim s).alr.mask = s.alr.mask := by
  unfold withdrawClaim
  split
  · exact count_mask _ _ _
  · rfl

theorem withdrawToWant_mask (s : State) : (withdrawToWant s).alr.mask = s.alr.mask := by
  unfold withdrawToWant
  split
  · rw [withdrawClaim_mask]
    split
    · rw [(setZone_keeps _ _ _).alr]
    · rfl
  · rfl

theorem shedElement_mask (s : State) : (shedElement s).alr.mask = s.alr.mask := by
  unfold shedElement
  split
  · rw [count_mask, (setZone_keeps _ _ _).alr]
  · rfl

theorem shed_mask (s : State) : (shed s).alr.mask = s.alr.mask := by
  rw [shed, (raiseFlag_keeps _ _).alr, judgeOverload_mask, (queueDemand_keeps _).alr, (recomputeDraw_keeps _).alr,
    shedElement_mask, State.setGsu_alr, withdrawToWant_mask]

theorem evaluateShed_mask (s : State) : (evaluateShed s).alr.mask = s.alr.mask := by
  unfold evaluateShed
  split
  · exact shed_mask s
  · rfl

theorem drawChanged_mask (s : State) : (drawChanged s).alr.mask = s.alr.mask := by
  rw [drawChanged, judgeOverload_mask, evaluateShed_mask, (queueDemand_keeps _).alr, (recomputeDraw_keeps _).alr]

theorem reportElements_mask (s : State) : (reportElements s).alr.mask = s.alr.mask := by
  unfold reportElements
  split
  · rw [(queueDemand_keeps s).alr]
  · exact drawChanged_mask s

theorem endTrial_mask (reason : TrialReason) (s : State) : (endTrial reason s).alr.mask = s.alr.mask := by
  unfold endTrial
  split
  · dsimp only
    split
    · exact raise_mask _ _
    · rfl
  · rfl

theorem levellingOff_mask (reason : TrialReason) (s : State) : (levellingOff reason s).alr.mask = s.alr.mask := by
  rw [levellingOff, (changeMode_keeps _ _).alr, endTrial_mask]

theorem changeFeedMode_mask (m : FeedMode) (s : State) : (changeFeedMode m s).alr.mask = s.alr.mask := by
  unfold changeFeedMode
  split
  · rfl
  · exact follow_mask _ _ _

/-- HALT entry may make sources present or absent, by the shed duty, the trial and the feed, but inhibits and enables none
(R6). -/
theorem haltEntry_mask (s : State) : (haltEntry s).alr.mask = s.alr.mask := by
  rw [haltEntry, reportElements_mask, (abandonClaim_keeps _).alr, (clearReady_keeps _).alr, (mapZones_keeps _ _).alr,
    changeFeedMode_mask, levellingOff_mask, (setNode_keeps _ _).alr]

theorem haltIfAsserted_mask (s : State) : (haltIfAsserted s).alr.mask = s.alr.mask := by
  unfold haltIfAsserted
  split
  · exact haltEntry_mask s
  · rfl

theorem latchAtReset_mask (conflict : Bool) (s : State) : (latchAtReset conflict s).alr.mask = s.alr.mask :=
  (raise_if_mask .haltInput _ _).trans (raise_if_mask .conflict conflict s)

/-! ### The mask after a reset -/

theorem powerUp_mask (pins : StrapPins) (s : State) : (powerUp pins s).alr.mask = 0 := by
  rw [powerUp, latchAtReset_mask]
  rfl

/-- The warm reset inhibits every source, and neither its latches, its DEMAND nor a HALT entry at once enables one
(R5, R12, R175). -/
theorem warmReset_mask (pins : StrapPins) (s : State) : (warmReset pins s).alr.mask = 0 := by
  have queued (conflict : Bool) :
      (queueDemand (recomputeNeed (latchAtReset conflict (resetBlocks pins s)))).alr.mask = 0 := by
    rw [(queueDemand_keeps _).alr, (recomputeNeed_keeps _).alr, latchAtReset_mask]
    rfl
  unfold warmReset
  dsimp only
  split
  · rw [haltIfAsserted_mask, queued]
  · exact queued _

/-! ### The statement settled -/

/-- Settles O19: the line reads the reset line, the present set and the mask alone, bit by bit; and both resets leave the
mask empty, which no operation of theirs writes afterwards. -/
theorem alertLineFollowsSources : Obligations.AlertLineFollowsSources := by
  unfold Obligations.AlertLineFollowsSources
  refine ⟨alertLine_iff, ?poweredUp, ?warm⟩
  case poweredUp =>
    intro s pins
    have inhibited := powerUp_mask pins s
    exact ⟨_, rfl, inhibited, alertLine_of_mask_zero _ inhibited⟩
  case warm =>
    intro s pins
    have inhibited := warmReset_mask pins s
    exact ⟨_, rfl, inhibited, alertLine_of_mask_zero _ inhibited⟩

end Sys2Proof.Safety
end
